-- ==== Sys2Proof/Word.lean ====
section
/-! DEFINITION. The word types of the SH-2/SH-4 VM: bytes, 16-bit instruction words, 32-bit
registers and addresses, and the register-number fields of an instruction (00_scope.md R8 to R12).
-/

namespace Sys2Proof

/-- A byte, 8 bits (R10). -/
abbrev Byte := BitVec 8

/-- An instruction word, or "word" datum, 16 bits (R9, R10). -/
abbrev Half := BitVec 16

/-- A register, an effective address or a long datum, 32 bits (R8). -/
abbrev Word := BitVec 32

/-- A 4-bit nibble of an instruction word (R9). -/
abbrev Nibble := BitVec 4

/-- The number of a general register R0..R15, as the instruction field holds it (R127). -/
abbrev Reg := BitVec 4

/-- The number of an FPU register or of a register pair, as the instruction field holds it (R68, R369). -/
abbrev FReg := BitVec 4

/-- The number 0..7 of a register of the other bank, the low three bits of an `M` or `N` nibble (R128). -/
abbrev BankReg := BitVec 3

end Sys2Proof
end

