-- ==== Sys2Proof/Config.lean ====
section
/-! DEFINITION. The implementation parameters of the spec (00_scope.md R7), the RESET record
(10_state.md R80), and the free values: constants with no body, of which nothing can be proved.
-/

namespace Sys2Proof

/-- A byte order (20_memory.md R90, R91). -/
inductive Endian where
  | little
  | big
  deriving DecidableEq, Repr

/-- `ADDR_MODE`: a flat 32-bit space, or a 29-bit space with three access-mode bits (R86). -/
inductive AddrMode where
  | sh2
  | sh4
  deriving DecidableEq, Repr

/-- `BANK_SELECT`: the bank follows MD alone, or MD and RB together (R34). -/
inductive BankSelect where
  | byMd
  | byMdAndRb
  deriving DecidableEq, Repr

/-- `SGR_ON_TRAP`: what trap entry does to SGR (R58). -/
inductive SgrOnTrap where
  | draw
  | r15
  | unchanged
  deriving DecidableEq, Repr

/-- `IFETCH_COHERENT`: whether a word this agent stored to may be fetched (R118). -/
inductive IFetch where
  | refuse
  | coherent
  deriving DecidableEq, Repr

/-- `MMU`: absent, or the translation function `Config.translate` (R112). -/
inductive Mmu where
  | absent
  | present
  deriving DecidableEq, Repr

/-- `Special`: no handler for region 7, or the handler `Config.specialAnswer` (R89). -/
inductive Special where
  | absent
  | present
  deriving DecidableEq, Repr

/-- An access to region 7, as its handler sees it: the bytes it moves, its address, and the value of a write
(R89; log 45). -/
inductive SpecialAccess where
  | read (bytes : Nat) (ea : Word)
  | write (bytes : Nat) (ea : Word) (value : Word)
  | fetch (ea : Word)
  deriving DecidableEq, Repr

/-- `FPNUM`: the recommended instance FPNUM_IEEE, or any other admissible instance (R366). -/
inductive FpNum where
  | ieee
  | other
  deriving DecidableEq, Repr

/-- The kind of a memory access (R112, R434). -/
inductive Access where
  | read
  | write
  | fetch
  deriving DecidableEq, Repr

/-- `VecOffset`: one offset for each event kind of 60_exceptions.md R431, an `MmuFault` having one
for a translation miss and one for any other fault (R446). -/
structure VecOffsets where
  illegalInstruction : Word
  slotIllegal : Word
  fpuDisabled : Word
  slotFpuDisabled : Word
  addressError : Word
  mmuMiss : Word
  mmuOther : Word
  trap : Word
  breakpoint : Word
  interrupt : Word
  deriving DecidableEq, Repr

/-- The parameters that are fixed for a run (R7). `State` carries one, so that a statement about
every state is a statement about every setting (log 1). -/
structure Config where
  endian : Endian
  endianLocal : Endian
  addrMode : AddrMode
  bankSelect : BankSelect
  sgrOnTrap : SgrOnTrap
  ifetch : IFetch
  ldsh8Signed : Bool
  movi24Signed : Bool
  vec : VecOffsets
  mmu : Mmu
  special : Special
  fpnum : FpNum
  deriving DecidableEq, Repr

/-- The SH-4 offsets that R446 recommends as the default. PRESUMED (log 20), unsafe. -/
def Config.vecSh4 : VecOffsets :=
  { illegalInstruction := 0x100, slotIllegal := 0x100, fpuDisabled := 0x100
    slotFpuDisabled := 0x100, addressError := 0x100, mmuMiss := 0x400, mmuOther := 0x100
    trap := 0x100, breakpoint := 0x100, interrupt := 0x600 }

/-- The setting `State.reset` takes: the spec's default where it gives one, else a named choice.
DESIGN CHOICE (logs 2, 3, 12, 13), unsafe. -/
def Config.standard : Config :=
  { endian := .little, endianLocal := .little, addrMode := .sh4, bankSelect := .byMd
    sgrOnTrap := .draw, ifetch := .refuse, ldsh8Signed := false, movi24Signed := false
    vec := Config.vecSh4, mmu := .absent, special := .absent, fpnum := .ieee }

/-- What a register of no stated reset value holds after reset. DESIGN CHOICE (log 5), unsafe. -/
def Config.resetWord : Word := 0

/-- `RESET` (10_state.md R80): pc, sr, vbr and fpscr, and optionally any other register
(92_eei_decisions.md D20), `Config.resetWord` where the record does not give it. -/
structure ResetValues where
  /-- Bits 31:1 of `RESET.pc`, which is even (R81). -/
  pcUpper : BitVec 31
  sr : Word
  vbr : Word
  fpscr : Word
  bankA : Vector Word 8 := Vector.replicate 8 Config.resetWord
  bankB : Vector Word 8 := Vector.replicate 8 Config.resetWord
  rh : Vector Word 8 := Vector.replicate 8 Config.resetWord
  gbr : Word := Config.resetWord
  ssr : Word := Config.resetWord
  spc : Word := Config.resetWord
  sgr : Word := Config.resetWord
  dbr : Word := Config.resetWord
  mach : Word := Config.resetWord
  macl : Word := Config.resetWord
  pr : Word := Config.resetWord
  fpul : Word := Config.resetWord
  fb0 : Vector Word 16 := Vector.replicate 16 Config.resetWord
  fb1 : Vector Word 16 := Vector.replicate 16 Config.resetWord
  deriving DecidableEq, Repr

/-- `RESET.pc`, even by its form (R81). -/
def ResetValues.pc (r : ResetValues) : Word := r.pcUpper ++ 0#1

/-- The SH-4 values that R80 and R480 offer as the default, the PC 0xA0000000. PRESUMED (log 4), unsafe. -/
def Config.resetSh4 : ResetValues :=
  { pcUpper := 0x50000000, sr := 0x700000F0, vbr := 0, fpscr := 0x00040001 }

/-- What a memory byte that nothing has written reads as. DESIGN CHOICE (log 6), unsafe. -/
def Config.blankByte : Byte := 0

/-- `SR_MASK`, the union of the nine field masks of SR (R52). -/
def Config.srMask : Word := 0x700083F3

/-- `FPSCR_MASK`, the union of the five field masks of FPSCR (R66). -/
def Config.fpscrMask : Word := 0x003C0003

/-- What `Translate` answers: a 4096-byte frame of the 29-bit space, or a fault (R111, R112, R446). -/
inductive Translation where
  | frame (f : BitVec 17)
  | miss
  | fault
  deriving DecidableEq, Repr, Inhabited

/-- The value-computing FPU operations that `FPNUM` holds, at either width (R366). -/
inductive FpOp where
  | add32 | sub32 | mul32 | div32 | sqrt32 | mac32 | eq32 | gt32 | float32 | trc32
  | add64 | sub64 | mul64 | div64 | sqrt64 | eq64 | gt64 | float64 | trc64
  | cnvsd | cnvds
  deriving DecidableEq, Repr

/-- A free value: the k-th unknown register value drawn in a run (R58, R304). No body: nothing is
known of it (log 8). -/
opaque Config.freeWord : Nat → Word

/-- `Translate(ea, kind, md)` on the page number `ea[31:12]` (R111, R112). No body (log 19). -/
opaque Config.translate : BitVec 20 → Access → Bool → Translation

/-- What the handler of region 7 answers to a read or a fetch, the first of these accesses, after the others,
newest first (R89). No body (log 45). -/
opaque Config.specialAnswer : List SpecialAccess → Word

/-- The result of an FPU operation where the spec does not fix it, a pure function of the
operands and of RM and DN, each 0 where R366 does not give it to the operation. No body: nothing is known of it
(logs 14, 15). -/
opaque Config.fpFree : FpOp → BitVec 2 → Bool → BitVec 64 → BitVec 64 → BitVec 64 → BitVec 64

end Sys2Proof
end

