-- ==== Sys2Proof/Syntax.lean ====
section
/-! DEFINITION. The instructions: one constructor for each row of spec/opcode_table.json (30_encoding.md
R134), in the table's order but for those without arguments, which
follow the others (the compiler bounds the tag of a constructor with arguments). Arguments are the fields of the row, as the word holds them: `n`, `m`
general or FPU register numbers, `nb`, `mb` a register of the other bank, `imm` and `disp` unscaled
fields, `x` and `y` the bits a not-implemented row leaves open. -/

namespace Sys2Proof

/-- An instruction, one constructor for each row of the opcode table (R2, R134). -/
inductive Instr where
  /-- `0n02` STC SR,Rn (R161). -/
  | stcSr (n : Reg)
  /-- `0n12` STC GBR,Rn (R162). -/
  | stcGbr (n : Reg)
  /-- `0n22` STC VBR,Rn (R163). -/
  | stcVbr (n : Reg)
  /-- `0n32` STC SSR,Rn (R164). -/
  | stcSsr (n : Reg)
  /-- `0n42` STC SPC,Rn (R165). -/
  | stcSpc (n : Reg)
  /-- `0n52` STC ?,Rn (R424). Marked `/`, a reserved encoding. -/
  | stcUnk052 (n : Reg)
  /-- `0nM2` STC Rm_B,Rn (R166). -/
  | stcBank (n : Reg) (mb : BankReg)
  /-- `0m03` BSRF Rm (R167). -/
  | bsrf (m : Reg)
  /-- `0m23` BSAF Rm (R170). -/
  | bsaf (m : Reg)
  /-- `0n63` MOVLI.L @Rm,R0 (R424). Marked `/`, a reserved encoding. -/
  | movliL (n : Reg)
  /-- `0n73` MOVCO.L R0,@Rn (R424). Marked `/`, a reserved encoding. -/
  | movcoL (n : Reg)
  /-- `0n83` PREF @Rn (R168). -/
  | pref (n : Reg)
  /-- `0n93` OCBI @Rn (R424). Marked `/`, a reserved encoding. -/
  | ocbi (n : Reg)
  /-- `0nA3` OCBP @Rn (R424). Marked `/`, a reserved encoding. -/
  | ocbp (n : Reg)
  /-- `0nB3` OCBWB @Rn (R424). Marked `/`, a reserved encoding. -/
  | ocbwb (n : Reg)
  /-- `0nC3` MOVCA.L R0,@Rn (R169). -/
  | movcaL (n : Reg)
  /-- `0nE3` ICBI @Rn (R424). Marked `/`, a reserved encoding. -/
  | icbi (n : Reg)
  /-- `0nm4` MOV.B Rm,@(R0,Rn) (R171). -/
  | movBStoreIdx (n : Reg) (m : Reg)
  /-- `0nm5` MOV.W Rm,@(R0,Rn) (R172). -/
  | movWStoreIdx (n : Reg) (m : Reg)
  /-- `0nm6` MOV.L Rm,@(R0,Rn) (R173). -/
  | movLStoreIdx (n : Reg) (m : Reg)
  /-- `0nm7` MUL.L Rm,Rn (R174). -/
  | mulL (n : Reg) (m : Reg)
  /-- `0n29` MOVT Rn (R182). -/
  | movt (n : Reg)
  /-- `0n39` MOVRT Rn (R424). Marked `/`, a reserved encoding. -/
  | movrt (n : Reg)
  /-- `0mA9` MOVUA.L @Rm,R0 (R424). Marked `/`, a reserved encoding. -/
  | movuaL0 (m : Reg)
  /-- `0mE9` MOVUA.L @Rm+,R0 (R424). Marked `/`, a reserved encoding. -/
  | movuaLInc0 (m : Reg)
  /-- `0n0A` STS MACH,Rn (R183). -/
  | stsMach (n : Reg)
  /-- `0n1A` STS MACL,Rn (R184). -/
  | stsMacl (n : Reg)
  /-- `0n2A` STS PR,Rn (R185). -/
  | stsPr (n : Reg)
  /-- `0n3A` STC SGR,Rn (R186). -/
  | stcSgr (n : Reg)
  /-- `0n4A` STC ?,Rn (R424). Marked `/`, a reserved encoding. -/
  | stcUnk04A (n : Reg)
  /-- `0n5A` STS FPUL,Rn (R187). -/
  | stsFpul (n : Reg)
  /-- `0n6A` STS FPSCR,Rn (R188). -/
  | stsFpscr (n : Reg)
  /-- `0m7B` RTV_N Rm (R424). Marked `/`, a reserved encoding. -/
  | rtvN (m : Reg)
  /-- `0nmC` MOV.B @(R0,Rm),Rn (R193). -/
  | movBLoadIdx (n : Reg) (m : Reg)
  /-- `0nmD` MOV.W @(R0,Rm),Rn (R194). -/
  | movWLoadIdx (n : Reg) (m : Reg)
  /-- `0nmE` MOV.L @(R0,Rm),Rn (R195). -/
  | movLLoadIdx (n : Reg) (m : Reg)
  /-- `0nmF` MAC.L @Rm,@Rn (R199). -/
  | macL (n : Reg) (m : Reg)
  /-- `1nmd` MOV.L Rm,@(Rn,disp) (R200). -/
  | movLStoreDisp (n : Reg) (m : Reg) (disp : Nibble)
  /-- `2nm0` MOV.B Rm,@Rn (R201). -/
  | movBStore (n : Reg) (m : Reg)
  /-- `2nm1` MOV.W Rm,@Rn (R202). -/
  | movWStore (n : Reg) (m : Reg)
  /-- `2nm2` MOV.L Rm,@Rn (R203). -/
  | movLStore (n : Reg) (m : Reg)
  /-- `2nm3` CAS.L Rm,Rn,@R0 (R205). -/
  | casL (n : Reg) (m : Reg)
  /-- `2nm4` MOV.B Rm,@-Rn (R206). -/
  | movBPush (n : Reg) (m : Reg)
  /-- `2nm5` MOV.W Rm,@-Rn (R207). -/
  | movWPush (n : Reg) (m : Reg)
  /-- `2nm6` MOV.L Rm,@-Rn (R208). -/
  | movLPush (n : Reg) (m : Reg)
  /-- `2nm7` DIV0S Rm,Rn (R209). -/
  | div0s (n : Reg) (m : Reg)
  /-- `2nm8` TST Rm,Rn (R210). -/
  | tstR (n : Reg) (m : Reg)
  /-- `2nm9` AND Rm,Rn (R211). -/
  | andR (n : Reg) (m : Reg)
  /-- `2nmA` XOR Rm,Rn (R212). -/
  | xorR (n : Reg) (m : Reg)
  /-- `2nmB` OR Rm,Rn (R213). -/
  | orR (n : Reg) (m : Reg)
  /-- `2nmC` CMPSTR Rm,Rn (R214). -/
  | cmpstr (n : Reg) (m : Reg)
  /-- `2nmD` XTRCT Rm,Rn (R215). -/
  | xtrct (n : Reg) (m : Reg)
  /-- `2nmE` MULU.W Rm,Rn (R216). -/
  | muluW (n : Reg) (m : Reg)
  /-- `2nmF` MULS.W Rm,Rn (R217). -/
  | mulsW (n : Reg) (m : Reg)
  /-- `3nm0` CMPEQ Rm,Rn (R220). -/
  | cmpeqR (n : Reg) (m : Reg)
  /-- `3nm2` CMPHS Rm,Rn (R221). -/
  | cmphs (n : Reg) (m : Reg)
  /-- `3nm3` CMPGE Rm,Rn (R222). -/
  | cmpge (n : Reg) (m : Reg)
  /-- `3nm4` DIV1 Rm,Rn (R224). -/
  | div1 (n : Reg) (m : Reg)
  /-- `3nm5` DMULU.L Rm,Rn (R225). -/
  | dmuluL (n : Reg) (m : Reg)
  /-- `3nm6` CMPHI Rm,Rn (R226). -/
  | cmphi (n : Reg) (m : Reg)
  /-- `3nm7` CMPGT Rm,Rn (R227). -/
  | cmpgt (n : Reg) (m : Reg)
  /-- `3nm8` SUB Rm,Rn (R228). -/
  | subR (n : Reg) (m : Reg)
  /-- `3nmA` SUBC Rm,Rn (R229). -/
  | subc (n : Reg) (m : Reg)
  /-- `3nmB` SUBV Rm,Rn (R230). -/
  | subv (n : Reg) (m : Reg)
  /-- `3nmC` ADD Rm,Rn (R231). -/
  | addR (n : Reg) (m : Reg)
  /-- `3nmD` DMULS.L Rm,Rn (R232). -/
  | dmulsL (n : Reg) (m : Reg)
  /-- `3nmE` ADDC Rm,Rn (R233). -/
  | addc (n : Reg) (m : Reg)
  /-- `3nmF` ADDV Rm,Rn (R234). -/
  | addv (n : Reg) (m : Reg)
  /-- `4n00` SHLL Rn (R240). -/
  | shll (n : Reg)
  /-- `4n10` DT Rn (R241). -/
  | dt (n : Reg)
  /-- `4n20` SHAL Rn (R242). -/
  | shal (n : Reg)
  /-- `4n80` MULR R0,Rn (R424). Marked `/`, a reserved encoding. -/
  | mulr (n : Reg)
  /-- `4mF0` MOVMU.L Rm,@-R15 (R424). Marked `/`, a reserved encoding. -/
  | movmuLPush (m : Reg)
  /-- `4n01` SHLR Rn (R243). -/
  | shlr (n : Reg)
  /-- `4n11` CMPPZ Rn (R244). -/
  | cmppz (n : Reg)
  /-- `4n21` SHAR Rn (R245). -/
  | shar (n : Reg)
  /-- `4n81` CLIPU.B (R424). Marked `/`, a reserved encoding. -/
  | clipuB (n : Reg)
  /-- `4n91` CLIPS.B (R424). Marked `/`, a reserved encoding. -/
  | clipsB (n : Reg)
  /-- `4nE1` STBANK r0,@Rn (R424). Marked `/`, a reserved encoding. -/
  | stbank (n : Reg)
  /-- `4mF1` MOVML.L Rm,@-R15 (R424). Marked `/`, a reserved encoding. -/
  | movmlLPush (m : Reg)
  /-- `4n02` STS.L MACH,@-Rn (R246). -/
  | stslMach (n : Reg)
  /-- `4n12` STS.L MACL,@-Rn (R247). -/
  | stslMacl (n : Reg)
  /-- `4n22` STS.L PR,@-Rn (R248). -/
  | stslPr (n : Reg)
  /-- `4n32` STC.L SGR,@-Rn (R249). -/
  | stclSgr (n : Reg)
  /-- `4n42` STC.L ?,@-Rn (R424). Marked `/`, a reserved encoding. -/
  | stclUnk42 (n : Reg)
  /-- `4n52` STS.L FPUL,@-Rn (R250). -/
  | stslFpul (n : Reg)
  /-- `4n62` STS.L FPSCR,@-Rn (R251). -/
  | stslFpscr (n : Reg)
  /-- `4n03` STC.L SR,@-Rn (R252). -/
  | stclSr (n : Reg)
  /-- `4n13` STC.L GBR,@-Rn (R253). -/
  | stclGbr (n : Reg)
  /-- `4n23` STC.L VBR,@-Rn (R254). -/
  | stclVbr (n : Reg)
  /-- `4n33` STC.L SSR,@-Rn (R255). -/
  | stclSsr (n : Reg)
  /-- `4n43` STC.L SPC,@-Rn (R256). -/
  | stclSpc (n : Reg)
  /-- `4n53` STC.L ?,@-Rn (R424). Marked `/`, a reserved encoding. -/
  | stclUnk53 (n : Reg)
  /-- `4nM3` STC.L Rm_B,@-Rn (R257). -/
  | stclBank (n : Reg) (mb : BankReg)
  /-- `4n04` ROTL Rn (R258). -/
  | rotl (n : Reg)
  /-- `4n24` ROTCL Rn (R259). -/
  | rotcl (n : Reg)
  /-- `4n84` DIVU R0,Rn (R424). Marked `/`, a reserved encoding. -/
  | divu (n : Reg)
  /-- `4n94` DIVS R0,Rn (R424). Marked `/`, a reserved encoding. -/
  | divs (n : Reg)
  /-- `4nF4` MOVMU.L @R15+,Rn (R424). Marked `/`, a reserved encoding. -/
  | movmuLPop (n : Reg)
  /-- `4n05` ROTR Rn (R260). -/
  | rotr (n : Reg)
  /-- `4n15` CMPPL Rn (R261). -/
  | cmppl (n : Reg)
  /-- `4n25` ROTCR Rn (R262). -/
  | rotcr (n : Reg)
  /-- `4n85` CLIPU.W (R424). Marked `/`, a reserved encoding. -/
  | clipuW (n : Reg)
  /-- `4n95` CLIPS.W (R424). Marked `/`, a reserved encoding. -/
  | clipsW (n : Reg)
  /-- `4mE5` LDBANK @Rm,R0 (R424). Marked `/`, a reserved encoding. -/
  | ldbank (m : Reg)
  /-- `4nF5` MOVML.L @R15+,Rn (R424). Marked `/`, a reserved encoding. -/
  | movmlLPop (n : Reg)
  /-- `4m06` LDS.L @Rm+,MACH (R263). -/
  | ldslMach (m : Reg)
  /-- `4m16` LDS.L @Rm+,MACL (R264). -/
  | ldslMacl (m : Reg)
  /-- `4m26` LDS.L @Rm+,PR (R265). -/
  | ldslPr (m : Reg)
  /-- `4m36` LDC.L @Rm+,SGR (R266). -/
  | ldclSgr (m : Reg)
  /-- `4m46` LDC.L @Rm+,? (R424). Marked `/`, a reserved encoding. -/
  | ldclUnk46 (m : Reg)
  /-- `4m56` LDS.L @Rm+,FPUL (R267). -/
  | ldslFpul (m : Reg)
  /-- `4m66` LDS.L @Rm+,FPSCR (R268). -/
  | ldslFpscr (m : Reg)
  /-- `4m07` LDC.L @Rm+,SR (R269). -/
  | ldclSr (m : Reg)
  /-- `4m17` LDC.L @Rm+,GBR (R270). -/
  | ldclGbr (m : Reg)
  /-- `4m27` LDC.L @Rm+,VBR (R271). -/
  | ldclVbr (m : Reg)
  /-- `4m37` LDC.L @Rm+,SSR (R272). -/
  | ldclSsr (m : Reg)
  /-- `4m47` LDC.L @Rm+,SPC (R273). -/
  | ldclSpc (m : Reg)
  /-- `4m57` LDC.L @Rm+,? (R424). Marked `/`, a reserved encoding. -/
  | ldclUnk57 (m : Reg)
  /-- `4mN7` LDC.L @Rm+,Rn_B (R274). -/
  | ldclBank (m : Reg) (nb : BankReg)
  /-- `4n08` SHLL2 Rn (R275). -/
  | shll2 (n : Reg)
  /-- `4n18` SHLL8 Rn (R276). -/
  | shll8 (n : Reg)
  /-- `4n28` SHLL16 Rn (R277). -/
  | shll16 (n : Reg)
  /-- `4n09` SHLR2 Rn (R278). -/
  | shlr2 (n : Reg)
  /-- `4n19` SHLR8 Rn (R279). -/
  | shlr8 (n : Reg)
  /-- `4n29` SHLR16 Rn (R280). -/
  | shlr16 (n : Reg)
  /-- `4mA9` MOVUA.L @Rm,R0 (R424). Marked `/`, a reserved encoding. -/
  | movuaL4 (m : Reg)
  /-- `4mE9` MOVUA.L @Rm+,R0 (R424). Marked `/`, a reserved encoding. -/
  | movuaLInc4 (m : Reg)
  /-- `4m0A` LDS Rm,MACH (R281). -/
  | ldsMach (m : Reg)
  /-- `4m1A` LDS Rm,MACL (R282). -/
  | ldsMacl (m : Reg)
  /-- `4m2A` LDS Rm,PR (R283). -/
  | ldsPr (m : Reg)
  /-- `4m3A` LDC Rm,SGR (R284). -/
  | ldcSgr (m : Reg)
  /-- `4m4A` LDC Rm,? (R424). Marked `/`, a reserved encoding. -/
  | ldcUnk4A (m : Reg)
  /-- `4m5A` LDS Rm,FPUL (R285). -/
  | ldsFpul (m : Reg)
  /-- `4m6A` LDS Rm,FPSCR (R286). -/
  | ldsFpscr (m : Reg)
  /-- `4m0B` JSR Rm (R287). -/
  | jsr (m : Reg)
  /-- `4m1B` TAS.B Rm (R292). -/
  | tasB (m : Reg)
  /-- `4m2B` JMP Rm (R288). -/
  | jmp (m : Reg)
  /-- `4m4B` JSR_N (R424). Marked `/`, a reserved encoding. -/
  | jsrN4B (m : Reg)
  /-- `4m8B` MOV.B R0,@Rn+ (R424). Marked `/`, a reserved encoding. -/
  | movBStoreInc (m : Reg)
  /-- `4m9B` MOV.W R0,@Rn+ (R424). Marked `/`, a reserved encoding. -/
  | movWStoreInc (m : Reg)
  /-- `4mAB` MOV.L R0,@Rn+ (R424). Marked `/`, a reserved encoding. -/
  | movLStoreInc (m : Reg)
  /-- `4mCB` MOV.B @-Rm,R0 (R424). Marked `/`, a reserved encoding. -/
  | movBLoadDec (m : Reg)
  /-- `4mDB` MOV.W @-Rm,R0 (R424). Marked `/`, a reserved encoding. -/
  | movWLoadDec (m : Reg)
  /-- `4mEB` MOV.L @-Rm,R0 (R424). Marked `/`, a reserved encoding. -/
  | movLLoadDec (m : Reg)
  /-- `4nmC` SHAD Rm,Rn (R289). -/
  | shad (n : Reg) (m : Reg)
  /-- `4nmD` SHLD Rm,Rn (R290). -/
  | shld (n : Reg) (m : Reg)
  /-- `4m0E` LDC Rm,SR (R293). -/
  | ldcSr (m : Reg)
  /-- `4m1E` LDC Rm,GBR (R294). -/
  | ldcGbr (m : Reg)
  /-- `4m2E` LDC Rm,VBR (R295). -/
  | ldcVbr (m : Reg)
  /-- `4m3E` LDC Rm,SSR (R296). -/
  | ldcSsr (m : Reg)
  /-- `4m4E` LDC Rm,SPC (R297). -/
  | ldcSpc (m : Reg)
  /-- `4m5E` LDC Rm,? (R424). Marked `/`, a reserved encoding. -/
  | ldcUnk5E (m : Reg)
  /-- `4mNE` LDC Rm,Rn_B (R298). -/
  | ldcBank (m : Reg) (nb : BankReg)
  /-- `4nmF` MAC.W Rm,Rn (R304). -/
  | macW (n : Reg) (m : Reg)
  /-- `5nmd` MOV.L @(Rm,disp),Rn (R305). -/
  | movLLoadDisp (n : Reg) (m : Reg) (disp : Nibble)
  /-- `6nm0` MOV.B @Rm,Rn (R306). -/
  | movBLoad (n : Reg) (m : Reg)
  /-- `6nm1` MOV.W @Rm,Rn (R307). -/
  | movWLoad (n : Reg) (m : Reg)
  /-- `6nm2` MOV.L @Rm,Rn (R308). -/
  | movLLoad (n : Reg) (m : Reg)
  /-- `6nm3` MOV Rm,Rn (R309). -/
  | movR (n : Reg) (m : Reg)
  /-- `6nm4` MOV.B @Rm+,Rn (R310). -/
  | movBLoadInc (n : Reg) (m : Reg)
  /-- `6nm5` MOV.W @Rm+,Rn (R311). -/
  | movWLoadInc (n : Reg) (m : Reg)
  /-- `6nm6` MOV.L @Rm+,Rn (R312). -/
  | movLLoadInc (n : Reg) (m : Reg)
  /-- `6nm7` NOT Rm,Rn (R313). -/
  | notR (n : Reg) (m : Reg)
  /-- `6nm8` SWAP.B Rm,Rn (R314). -/
  | swapB (n : Reg) (m : Reg)
  /-- `6nm9` SWAP.W Rm,Rn (R315). -/
  | swapW (n : Reg) (m : Reg)
  /-- `6nmA` NEGC Rm,Rn (R316). -/
  | negc (n : Reg) (m : Reg)
  /-- `6nmB` NEG Rm,Rn (R317). -/
  | neg (n : Reg) (m : Reg)
  /-- `6nmC` EXTU.B Rm,Rn (R318). -/
  | extuB (n : Reg) (m : Reg)
  /-- `6nmD` EXTU.W Rm,Rn (R319). -/
  | extuW (n : Reg) (m : Reg)
  /-- `6nmE` EXTS.B Rm,Rn (R320). -/
  | extsB (n : Reg) (m : Reg)
  /-- `6nmF` EXTS.W Rm,Rn (R321). -/
  | extsW (n : Reg) (m : Reg)
  /-- `7nii` ADD #imm,Rn (R322). -/
  | addI (n : Reg) (imm : BitVec 8)
  /-- `80nd` MOV.B R0,@(Rn,disp) (R325). -/
  | movBStoreDisp (n : Reg) (disp : Nibble)
  /-- `81nd` MOV.W R0,@(Rn,disp) (R326). -/
  | movWStoreDisp (n : Reg) (disp : Nibble)
  /-- `83--` JSR_N (R424). Marked `/`, a reserved encoding. -/
  | jsrN83 (x : BitVec 8)
  /-- `84md` MOV.B @(Rm,disp),R0 (R327). -/
  | movBLoadDisp (m : Reg) (disp : Nibble)
  /-- `85md` MOV.W @(Rm,disp),R0 (R328). -/
  | movWLoadDisp (m : Reg) (disp : Nibble)
  /-- `86--` BSET|BCLR #imm3,Rn (R424). Marked `/`, a reserved encoding. -/
  | bsetBclr (x : BitVec 8)
  /-- `87--` BST|BLD #imm3,Rn (R424). Marked `/`, a reserved encoding. -/
  | bstBld (x : BitVec 8)
  /-- `88ii` CMPEQ #imm,R0 (R329). -/
  | cmpeqI (imm : BitVec 8)
  /-- `89dd` BT label (R330). -/
  | bt (disp : BitVec 8)
  /-- `8Aii` MOVI24 #imm24,R0 (R410). -/
  | movi24 (imm : BitVec 24)
  /-- `8Bdd` BF label (R331). -/
  | bf (disp : BitVec 8)
  /-- `8Cii` LDSH8 #imm,R0 (R411). -/
  | ldsh8 (imm : BitVec 8)
  /-- `8Ddd` BTS label (R332). -/
  | bts (disp : BitVec 8)
  /-- `8Eii` XPFX0 (R412). The combiner prefix. -/
  | xpfx0 (imm : BitVec 8)
  /-- `8Fdd` BFS label (R333). -/
  | bfs (disp : BitVec 8)
  /-- `9ndd` MOV.W @(PC,disp),Rn (R335). -/
  | movWLoadPc (n : Reg) (disp : BitVec 8)
  /-- `Addd` BRA label (R336). -/
  | bra (disp : BitVec 12)
  /-- `Bddd` BSR label (R337). -/
  | bsr (disp : BitVec 12)
  /-- `C0dd` MOV.B R0,@(GBR,disp) (R345). -/
  | movBStoreGbr (disp : BitVec 8)
  /-- `C1dd` MOV.W R0,@(GBR,disp) (R346). -/
  | movWStoreGbr (disp : BitVec 8)
  /-- `C2dd` MOV.L R0,@(GBR,disp) (R347). -/
  | movLStoreGbr (disp : BitVec 8)
  /-- `C3jj` TRAPA #imm (R348). -/
  | trapa (imm : BitVec 8)
  /-- `C4dd` MOV.B @(GBR,disp),R0 (R349). -/
  | movBLoadGbr (disp : BitVec 8)
  /-- `C5dd` MOV.W @(GBR,disp),R0 (R350). -/
  | movWLoadGbr (disp : BitVec 8)
  /-- `C6dd` MOV.L @(GBR,disp),R0 (R351). -/
  | movLLoadGbr (disp : BitVec 8)
  /-- `C7dd` MOVA @(PC,disp),R0 (R352). -/
  | mova (disp : BitVec 8)
  /-- `C8jj` TST #imm,R0 (R353). -/
  | tstI (imm : BitVec 8)
  /-- `C9jj` AND #imm,R0 (R354). -/
  | andI (imm : BitVec 8)
  /-- `CAjj` XOR #imm,R0 (R355). -/
  | xorI (imm : BitVec 8)
  /-- `CBjj` OR #imm,R0 (R356). -/
  | orI (imm : BitVec 8)
  /-- `CCjj` TST.B #imm,@(GBR,R0) (R357). -/
  | tstBGbr (imm : BitVec 8)
  /-- `CDjj` AND.B #imm,@(GBR,R0) (R358). -/
  | andBGbr (imm : BitVec 8)
  /-- `CEjj` XOR.B #imm,@(GBR,R0) (R359). -/
  | xorBGbr (imm : BitVec 8)
  /-- `CFjj` OR.B #imm,@(GBR,R0) (R360). -/
  | orBGbr (imm : BitVec 8)
  /-- `Dndd` MOV.L @(PC,disp),Rn (R361). -/
  | movLLoadPc (n : Reg) (disp : BitVec 8)
  /-- `Enii` MOV #imm,Rn (R362). -/
  | movI (n : Reg) (imm : BitVec 8)
  /-- `Fnm0` FADD FRm,FRn (R370). -/
  | fadd (n : FReg) (m : FReg)
  /-- `Fnm1` FSUB FRm,FRn (R371). -/
  | fsub (n : FReg) (m : FReg)
  /-- `Fnm2` FMUL FRm,FRn (R372). -/
  | fmul (n : FReg) (m : FReg)
  /-- `Fnm3` FDIV FRm,FRn (R373). -/
  | fdiv (n : FReg) (m : FReg)
  /-- `Fnm4` FCMPEQ FRm,FRn (R374). -/
  | fcmpeq (n : FReg) (m : FReg)
  /-- `Fnm5` FCMPGT FRm,FRn (R375). -/
  | fcmpgt (n : FReg) (m : FReg)
  /-- `Fnm6` FMOV.S @(R0,Rm),FRn (R376). -/
  | fmovLoadIdx (n : FReg) (m : Reg)
  /-- `Fnm7` FMOV.S FRm,@(R0,Rn) (R377). -/
  | fmovStoreIdx (n : Reg) (m : FReg)
  /-- `Fnm8` FMOV.S @Rm,FRn (R378). -/
  | fmovLoad (n : FReg) (m : Reg)
  /-- `Fnm9` FMOV.S @Rm+,FRn (R379). -/
  | fmovLoadInc (n : FReg) (m : Reg)
  /-- `FnmA` FMOV.S FRm,@Rn (R380). -/
  | fmovStore (n : Reg) (m : FReg)
  /-- `FnmB` FMOV.S FRm,@-Rn (R381). -/
  | fmovPush (n : Reg) (m : FReg)
  /-- `FnmC` FMOV FRm,FRn (R382). -/
  | fmovR (n : FReg) (m : FReg)
  /-- `Fn0D` FSTS FRn (R383). -/
  | fsts (n : FReg)
  /-- `Fm1D` FLDS FRm (R384). -/
  | flds (m : FReg)
  /-- `Fn2D` FLOAT FRn (R385). -/
  | float (n : FReg)
  /-- `Fm3D` FTRC FRm (R386). -/
  | ftrc (m : FReg)
  /-- `Fn4D` FNEG FRn (R387). -/
  | fneg (n : FReg)
  /-- `Fn5D` FABS FRn (R388). -/
  | fabs (n : FReg)
  /-- `Fn6D` FSQRT FRn (R389). -/
  | fsqrt (n : FReg)
  /-- `F-7D` FSRRA (R424). Marked `/`, a reserved encoding. -/
  | fsrra (x : Nibble)
  /-- `Fn8D` FLDI0 FRn (R390). -/
  | fldi0 (n : FReg)
  /-- `Fn9D` FLDI1 FRn (R391). -/
  | fldi1 (n : FReg)
  /-- `FnAD` FCNVSD FRn (R392). -/
  | fcnvsd (n : FReg)
  /-- `FmBD` FCNVDS FRm (R393). -/
  | fcnvds (m : FReg)
  /-- `F-ED` FIPR (R424). Marked `/`, a reserved encoding. -/
  | fipr (x : Nibble)
  /-- `FnmE` FMAC FRm,FRn (R395). -/
  | fmac (n : FReg) (m : FReg)
  /-- `F--F` BT_RES-32 (R413). The reserved column. -/
  | resFF (x : Nibble) (y : Nibble)
  /-- `0008` CLRT (R175). -/
  | clrt
  /-- `0018` SETT (R176). -/
  | sett
  /-- `0028` CLRMAC (R177). -/
  | clrmac
  /-- `0038` LDTLB (R424). Marked `/`, a reserved encoding. -/
  | ldtlb
  /-- `0048` CLRS (R178). -/
  | clrs
  /-- `0058` SETS (R179). -/
  | sets
  /-- `0068` NOTT (R424). Marked `/`, a reserved encoding. -/
  | nott
  /-- `0009` NOP (R180). -/
  | nop
  /-- `0019` DIV0U (R181). -/
  | div0u
  /-- `000B` RTS (R189). -/
  | rts
  /-- `001B` SLEEP (R190). -/
  | sleep
  /-- `002B` RTE (R191). -/
  | rte
  /-- `003B` BRK (R192). -/
  | brk
  /-- `005B` RESBANK (R424). Marked `/`, a reserved encoding. -/
  | resbank
  /-- `006B` RTS_N (R424). Marked `/`, a reserved encoding. -/
  | rtsN
  /-- `00AB` SYNCO (R424). Marked `/`, a reserved encoding. -/
  | synco
  /-- `F0FD` FSCA (R424). Marked `/`, a reserved encoding. -/
  | fscaF0
  /-- `F1FD` FTRV2 (R424). Marked `/`, a reserved encoding. -/
  | ftrv2F1
  /-- `F2FD` FSCA (R424). Marked `/`, a reserved encoding. -/
  | fscaF2
  /-- `F3FD` FSCHG (R394). -/
  | fschg
  /-- `F4FD` FSCA (R424). Marked `/`, a reserved encoding. -/
  | fscaF4
  /-- `F5FD` FTRV2 (R424). Marked `/`, a reserved encoding. -/
  | ftrv2F5
  /-- `F6FD` FSCA (R424). Marked `/`, a reserved encoding. -/
  | fscaF6
  /-- `F7FD` FPCHG (R424). Marked `/`, a reserved encoding. -/
  | fpchg
  /-- `F8FD` FSCA (R424). Marked `/`, a reserved encoding. -/
  | fscaF8
  /-- `F9FD` FTRV2 (R424). Marked `/`, a reserved encoding. -/
  | ftrv2F9
  /-- `FAFD` FSCA (R424). Marked `/`, a reserved encoding. -/
  | fscaFA
  /-- `FBFD` FRCHG (R424). Marked `/`, a reserved encoding. -/
  | frchg
  /-- `FCFD` FSCA (R424). Marked `/`, a reserved encoding. -/
  | fscaFC
  /-- `FDFD` FTRV2 (R424). Marked `/`, a reserved encoding. -/
  | ftrv2FD
  /-- `FEFD` FSCA (R424). Marked `/`, a reserved encoding. -/
  | fscaFE
  /-- `0ni0-iiii` MOVI20 #imm,Rn (R417). A reserved 32-bit form; never decoded. -/
  | movi20 (n : Reg) (imm : BitVec 20)
  /-- `0ni1-iiii` MOVI20S #imm,Rn (R417). A reserved 32-bit form; never decoded. -/
  | movi20s (n : Reg) (imm : BitVec 20)
  /-- `3nm1-0ddd` MOV.B Rm,@(Rn,disp) (R418). A reserved 32-bit form; never decoded. -/
  | movBStoreD12 (n : Reg) (m : Reg) (disp : BitVec 12)
  /-- `3nm1-1ddd` MOV.W Rm,@(Rn,disp) (R418). A reserved 32-bit form; never decoded. -/
  | movWStoreD12 (n : Reg) (m : Reg) (disp : BitVec 12)
  /-- `3nm1-2ddd` MOV.L Rm,@(Rn,disp) (R418). A reserved 32-bit form; never decoded. -/
  | movLStoreD12 (n : Reg) (m : Reg) (disp : BitVec 12)
  /-- `3nm1-3ddd` FMOV.S FRm,@(Rn,disp) (R418). A reserved 32-bit form; never decoded. -/
  | fmovStoreD12 (n : Reg) (m : FReg) (disp : BitVec 12)
  /-- `3nm1-4ddd` MOV.B @(Rm,disp),Rn (R418). A reserved 32-bit form; never decoded. -/
  | movBLoadD12 (n : Reg) (m : Reg) (disp : BitVec 12)
  /-- `3nm1-5ddd` MOV.W @(Rm,disp),Rn (R418). A reserved 32-bit form; never decoded. -/
  | movWLoadD12 (n : Reg) (m : Reg) (disp : BitVec 12)
  /-- `3nm1-6ddd` MOV.L @(Rm,disp),Rn (R418). A reserved 32-bit form; never decoded. -/
  | movLLoadD12 (n : Reg) (m : Reg) (disp : BitVec 12)
  /-- `3nm1-7ddd` FMOV.S @(Rm,disp),FRn (R418). A reserved 32-bit form; never decoded. -/
  | fmovLoadD12 (n : FReg) (m : Reg) (disp : BitVec 12)
  /-- `3nm1-8ddd` MOVU.B @(Rm,disp),Rn (R418). A reserved 32-bit form; never decoded. -/
  | movuBLoadD12 (n : Reg) (m : Reg) (disp : BitVec 12)
  /-- `3nm1-9ddd` MOVU.W @(Rm,disp),Rn (R418). A reserved 32-bit form; never decoded. -/
  | movuWLoadD12 (n : Reg) (m : Reg) (disp : BitVec 12)
  /-- `3ni9-0ddd` BCLR.B (R419). A reserved 32-bit form; never decoded. -/
  | bclrB (n : Reg) (imm : Nibble) (disp : BitVec 12)
  /-- `3ni9-1ddd` BSET.B (R419). A reserved 32-bit form; never decoded. -/
  | bsetB (n : Reg) (imm : Nibble) (disp : BitVec 12)
  /-- `3ni9-2ddd` BST.B (R419). A reserved 32-bit form; never decoded. -/
  | bstB (n : Reg) (imm : Nibble) (disp : BitVec 12)
  /-- `3ni9-3ddd` BLD.B (R419). A reserved 32-bit form; never decoded. -/
  | bldB (n : Reg) (imm : Nibble) (disp : BitVec 12)
  /-- `3ni9-4ddd` BAND.B (R419). A reserved 32-bit form; never decoded. -/
  | bandB (n : Reg) (imm : Nibble) (disp : BitVec 12)
  /-- `3ni9-5ddd` BOR.B (R419). A reserved 32-bit form; never decoded. -/
  | borB (n : Reg) (imm : Nibble) (disp : BitVec 12)
  /-- `3ni9-6ddd` BXOR.B (R419). A reserved 32-bit form; never decoded. -/
  | bxorB (n : Reg) (imm : Nibble) (disp : BitVec 12)
  /-- `3ni9-Bddd` BLDNOT.B (R419). A reserved 32-bit form; never decoded. -/
  | bldnotB (n : Reg) (imm : Nibble) (disp : BitVec 12)
  /-- `3ni9-Cddd` BANDNOT.B (R419). A reserved 32-bit form; never decoded. -/
  | bandnotB (n : Reg) (imm : Nibble) (disp : BitVec 12)
  /-- `3ni9-Dddd` BORNOT.B (R419). A reserved 32-bit form; never decoded. -/
  | bornotB (n : Reg) (imm : Nibble) (disp : BitVec 12)
  /-- `3nm0-89dd` CMPBEQ Rm,Rn,label (R415). A super-op, two adjacent instructions; never decoded. -/
  | cmpbeq (n : Reg) (m : Reg) (disp : BitVec 8)
  /-- `3nm0-8Bdd` CMPBNE Rm,Rn,label (R415). A super-op, two adjacent instructions; never decoded. -/
  | cmpbne (n : Reg) (m : Reg) (disp : BitVec 8)
  /-- `3nm3-89dd` CMPBGE Rm,Rn,label (R415). A super-op, two adjacent instructions; never decoded. -/
  | cmpbge (n : Reg) (m : Reg) (disp : BitVec 8)
  /-- `3nm3-8Bdd` CMPBLT Rm,Rn,label (R415). A super-op, two adjacent instructions; never decoded. -/
  | cmpblt (n : Reg) (m : Reg) (disp : BitVec 8)
  /-- `3nm7-89dd` CMPBGT Rm,Rn,label (R415). A super-op, two adjacent instructions; never decoded. -/
  | cmpbgt (n : Reg) (m : Reg) (disp : BitVec 8)
  /-- `3nm7-8Bdd` CMPBLE Rm,Rn,label (R415). A super-op, two adjacent instructions; never decoded. -/
  | cmpble (n : Reg) (m : Reg) (disp : BitVec 8)
  /-- `Emii-4nmC` SHAD #imm,Rm,Rn (R416). A super-op, two adjacent instructions; never decoded. -/
  | shadImm (n : Reg) (m : Reg) (imm : BitVec 8)
  /-- `Emii-4nmD` SHLD #imm,Rm,Rn (R416). A super-op, two adjacent instructions; never decoded. -/
  | shldImm (n : Reg) (m : Reg) (imm : BitVec 8)
  deriving DecidableEq, Repr

end Sys2Proof
end

