-- ==== Sys2Proof/WellFormed.lean ====
section
/-! DEFINITION. The status of each row of the opcode table (30_encoding.md R134), and which
instructions a program can hold: every row but the super-ops and the reserved 32-bit forms, which
"take no part in decoding". -/

namespace Sys2Proof

/-- The status column of spec/opcode_table.json (R134). -/
inductive Status where
  | implemented
  | notImplemented
  | refusedPrefix
  | reservedColumn
  | reserved32
  | superOp
  deriving DecidableEq, Repr

/-- The status of the instruction's row (R134). -/
def Instr.status : Instr → Status
  | .stcSr _ => .implemented
  | .stcGbr _ => .implemented
  | .stcVbr _ => .implemented
  | .stcSsr _ => .implemented
  | .stcSpc _ => .implemented
  | .stcUnk052 _ => .notImplemented
  | .stcBank _ _ => .implemented
  | .bsrf _ => .implemented
  | .bsaf _ => .implemented
  | .movliL _ => .notImplemented
  | .movcoL _ => .notImplemented
  | .pref _ => .implemented
  | .ocbi _ => .notImplemented
  | .ocbp _ => .notImplemented
  | .ocbwb _ => .notImplemented
  | .movcaL _ => .implemented
  | .icbi _ => .notImplemented
  | .movBStoreIdx _ _ => .implemented
  | .movWStoreIdx _ _ => .implemented
  | .movLStoreIdx _ _ => .implemented
  | .mulL _ _ => .implemented
  | .clrt => .implemented
  | .sett => .implemented
  | .clrmac => .implemented
  | .ldtlb => .notImplemented
  | .clrs => .implemented
  | .sets => .implemented
  | .nott => .notImplemented
  | .nop => .implemented
  | .div0u => .implemented
  | .movt _ => .implemented
  | .movrt _ => .notImplemented
  | .movuaL0 _ => .notImplemented
  | .movuaLInc0 _ => .notImplemented
  | .stsMach _ => .implemented
  | .stsMacl _ => .implemented
  | .stsPr _ => .implemented
  | .stcSgr _ => .implemented
  | .stcUnk04A _ => .notImplemented
  | .stsFpul _ => .implemented
  | .stsFpscr _ => .implemented
  | .rts => .implemented
  | .sleep => .implemented
  | .rte => .implemented
  | .brk => .implemented
  | .resbank => .notImplemented
  | .rtsN => .notImplemented
  | .rtvN _ => .notImplemented
  | .synco => .notImplemented
  | .movBLoadIdx _ _ => .implemented
  | .movWLoadIdx _ _ => .implemented
  | .movLLoadIdx _ _ => .implemented
  | .macL _ _ => .implemented
  | .movLStoreDisp _ _ _ => .implemented
  | .movBStore _ _ => .implemented
  | .movWStore _ _ => .implemented
  | .movLStore _ _ => .implemented
  | .casL _ _ => .implemented
  | .movBPush _ _ => .implemented
  | .movWPush _ _ => .implemented
  | .movLPush _ _ => .implemented
  | .div0s _ _ => .implemented
  | .tstR _ _ => .implemented
  | .andR _ _ => .implemented
  | .xorR _ _ => .implemented
  | .orR _ _ => .implemented
  | .cmpstr _ _ => .implemented
  | .xtrct _ _ => .implemented
  | .muluW _ _ => .implemented
  | .mulsW _ _ => .implemented
  | .cmpeqR _ _ => .implemented
  | .cmphs _ _ => .implemented
  | .cmpge _ _ => .implemented
  | .div1 _ _ => .implemented
  | .dmuluL _ _ => .implemented
  | .cmphi _ _ => .implemented
  | .cmpgt _ _ => .implemented
  | .subR _ _ => .implemented
  | .subc _ _ => .implemented
  | .subv _ _ => .implemented
  | .addR _ _ => .implemented
  | .dmulsL _ _ => .implemented
  | .addc _ _ => .implemented
  | .addv _ _ => .implemented
  | .shll _ => .implemented
  | .dt _ => .implemented
  | .shal _ => .implemented
  | .mulr _ => .notImplemented
  | .movmuLPush _ => .notImplemented
  | .shlr _ => .implemented
  | .cmppz _ => .implemented
  | .shar _ => .implemented
  | .clipuB _ => .notImplemented
  | .clipsB _ => .notImplemented
  | .stbank _ => .notImplemented
  | .movmlLPush _ => .notImplemented
  | .stslMach _ => .implemented
  | .stslMacl _ => .implemented
  | .stslPr _ => .implemented
  | .stclSgr _ => .implemented
  | .stclUnk42 _ => .notImplemented
  | .stslFpul _ => .implemented
  | .stslFpscr _ => .implemented
  | .stclSr _ => .implemented
  | .stclGbr _ => .implemented
  | .stclVbr _ => .implemented
  | .stclSsr _ => .implemented
  | .stclSpc _ => .implemented
  | .stclUnk53 _ => .notImplemented
  | .stclBank _ _ => .implemented
  | .rotl _ => .implemented
  | .rotcl _ => .implemented
  | .divu _ => .notImplemented
  | .divs _ => .notImplemented
  | .movmuLPop _ => .notImplemented
  | .rotr _ => .implemented
  | .cmppl _ => .implemented
  | .rotcr _ => .implemented
  | .clipuW _ => .notImplemented
  | .clipsW _ => .notImplemented
  | .ldbank _ => .notImplemented
  | .movmlLPop _ => .notImplemented
  | .ldslMach _ => .implemented
  | .ldslMacl _ => .implemented
  | .ldslPr _ => .implemented
  | .ldclSgr _ => .implemented
  | .ldclUnk46 _ => .notImplemented
  | .ldslFpul _ => .implemented
  | .ldslFpscr _ => .implemented
  | .ldclSr _ => .implemented
  | .ldclGbr _ => .implemented
  | .ldclVbr _ => .implemented
  | .ldclSsr _ => .implemented
  | .ldclSpc _ => .implemented
  | .ldclUnk57 _ => .notImplemented
  | .ldclBank _ _ => .implemented
  | .shll2 _ => .implemented
  | .shll8 _ => .implemented
  | .shll16 _ => .implemented
  | .shlr2 _ => .implemented
  | .shlr8 _ => .implemented
  | .shlr16 _ => .implemented
  | .movuaL4 _ => .notImplemented
  | .movuaLInc4 _ => .notImplemented
  | .ldsMach _ => .implemented
  | .ldsMacl _ => .implemented
  | .ldsPr _ => .implemented
  | .ldcSgr _ => .implemented
  | .ldcUnk4A _ => .notImplemented
  | .ldsFpul _ => .implemented
  | .ldsFpscr _ => .implemented
  | .jsr _ => .implemented
  | .tasB _ => .implemented
  | .jmp _ => .implemented
  | .jsrN4B _ => .notImplemented
  | .movBStoreInc _ => .notImplemented
  | .movWStoreInc _ => .notImplemented
  | .movLStoreInc _ => .notImplemented
  | .movBLoadDec _ => .notImplemented
  | .movWLoadDec _ => .notImplemented
  | .movLLoadDec _ => .notImplemented
  | .shad _ _ => .implemented
  | .shld _ _ => .implemented
  | .ldcSr _ => .implemented
  | .ldcGbr _ => .implemented
  | .ldcVbr _ => .implemented
  | .ldcSsr _ => .implemented
  | .ldcSpc _ => .implemented
  | .ldcUnk5E _ => .notImplemented
  | .ldcBank _ _ => .implemented
  | .macW _ _ => .implemented
  | .movLLoadDisp _ _ _ => .implemented
  | .movBLoad _ _ => .implemented
  | .movWLoad _ _ => .implemented
  | .movLLoad _ _ => .implemented
  | .movR _ _ => .implemented
  | .movBLoadInc _ _ => .implemented
  | .movWLoadInc _ _ => .implemented
  | .movLLoadInc _ _ => .implemented
  | .notR _ _ => .implemented
  | .swapB _ _ => .implemented
  | .swapW _ _ => .implemented
  | .negc _ _ => .implemented
  | .neg _ _ => .implemented
  | .extuB _ _ => .implemented
  | .extuW _ _ => .implemented
  | .extsB _ _ => .implemented
  | .extsW _ _ => .implemented
  | .addI _ _ => .implemented
  | .movBStoreDisp _ _ => .implemented
  | .movWStoreDisp _ _ => .implemented
  | .jsrN83 _ => .notImplemented
  | .movBLoadDisp _ _ => .implemented
  | .movWLoadDisp _ _ => .implemented
  | .bsetBclr _ => .notImplemented
  | .bstBld _ => .notImplemented
  | .cmpeqI _ => .implemented
  | .bt _ => .implemented
  | .movi24 _ => .implemented
  | .bf _ => .implemented
  | .ldsh8 _ => .implemented
  | .bts _ => .implemented
  | .xpfx0 _ => .refusedPrefix
  | .bfs _ => .implemented
  | .movWLoadPc _ _ => .implemented
  | .bra _ => .implemented
  | .bsr _ => .implemented
  | .movBStoreGbr _ => .implemented
  | .movWStoreGbr _ => .implemented
  | .movLStoreGbr _ => .implemented
  | .trapa _ => .implemented
  | .movBLoadGbr _ => .implemented
  | .movWLoadGbr _ => .implemented
  | .movLLoadGbr _ => .implemented
  | .mova _ => .implemented
  | .tstI _ => .implemented
  | .andI _ => .implemented
  | .xorI _ => .implemented
  | .orI _ => .implemented
  | .tstBGbr _ => .implemented
  | .andBGbr _ => .implemented
  | .xorBGbr _ => .implemented
  | .orBGbr _ => .implemented
  | .movLLoadPc _ _ => .implemented
  | .movI _ _ => .implemented
  | .fadd _ _ => .implemented
  | .fsub _ _ => .implemented
  | .fmul _ _ => .implemented
  | .fdiv _ _ => .implemented
  | .fcmpeq _ _ => .implemented
  | .fcmpgt _ _ => .implemented
  | .fmovLoadIdx _ _ => .implemented
  | .fmovStoreIdx _ _ => .implemented
  | .fmovLoad _ _ => .implemented
  | .fmovLoadInc _ _ => .implemented
  | .fmovStore _ _ => .implemented
  | .fmovPush _ _ => .implemented
  | .fmovR _ _ => .implemented
  | .fsts _ => .implemented
  | .flds _ => .implemented
  | .float _ => .implemented
  | .ftrc _ => .implemented
  | .fneg _ => .implemented
  | .fabs _ => .implemented
  | .fsqrt _ => .implemented
  | .fsrra _ => .notImplemented
  | .fldi0 _ => .implemented
  | .fldi1 _ => .implemented
  | .fcnvsd _ => .implemented
  | .fcnvds _ => .implemented
  | .fipr _ => .notImplemented
  | .fscaF0 => .notImplemented
  | .ftrv2F1 => .notImplemented
  | .fscaF2 => .notImplemented
  | .fschg => .implemented
  | .fscaF4 => .notImplemented
  | .ftrv2F5 => .notImplemented
  | .fscaF6 => .notImplemented
  | .fpchg => .notImplemented
  | .fscaF8 => .notImplemented
  | .ftrv2F9 => .notImplemented
  | .fscaFA => .notImplemented
  | .frchg => .notImplemented
  | .fscaFC => .notImplemented
  | .ftrv2FD => .notImplemented
  | .fscaFE => .notImplemented
  | .fmac _ _ => .implemented
  | .resFF _ _ => .reservedColumn
  | .movi20 _ _ => .reserved32
  | .movi20s _ _ => .reserved32
  | .movBStoreD12 _ _ _ => .reserved32
  | .movWStoreD12 _ _ _ => .reserved32
  | .movLStoreD12 _ _ _ => .reserved32
  | .fmovStoreD12 _ _ _ => .reserved32
  | .movBLoadD12 _ _ _ => .reserved32
  | .movWLoadD12 _ _ _ => .reserved32
  | .movLLoadD12 _ _ _ => .reserved32
  | .fmovLoadD12 _ _ _ => .reserved32
  | .movuBLoadD12 _ _ _ => .reserved32
  | .movuWLoadD12 _ _ _ => .reserved32
  | .bclrB _ _ _ => .reserved32
  | .bsetB _ _ _ => .reserved32
  | .bstB _ _ _ => .reserved32
  | .bldB _ _ _ => .reserved32
  | .bandB _ _ _ => .reserved32
  | .borB _ _ _ => .reserved32
  | .bxorB _ _ _ => .reserved32
  | .bldnotB _ _ _ => .reserved32
  | .bandnotB _ _ _ => .reserved32
  | .bornotB _ _ _ => .reserved32
  | .cmpbeq _ _ _ => .superOp
  | .cmpbne _ _ _ => .superOp
  | .cmpbge _ _ _ => .superOp
  | .cmpblt _ _ _ => .superOp
  | .cmpbgt _ _ _ => .superOp
  | .cmpble _ _ _ => .superOp
  | .shadImm _ _ _ => .superOp
  | .shldImm _ _ _ => .superOp

/-- A well-formed instruction has an encoding of its own: a super-op's words are two other instructions
(R414), and a reserved 32-bit form is a 16-bit reserved encoding whose second word is not consumed
(R151, R417 to R419). -/
def Instr.wf (i : Instr) : Bool :=
  match i.status with
  | .implemented => true
  | .notImplemented => true
  | .refusedPrefix => true
  | .reservedColumn => true
  | .reserved32 => false
  | .superOp => false

end Sys2Proof
end

