-- ==== Sys2Proof/Decode.lean ====
section
/-! DEFINITION. The decoder (30_encoding.md R134 to R150), total on any words and on any bytes, and the
encoder, both from the rows of spec/opcode_table.json. -/

namespace Sys2Proof

/-- Why a word is no instruction. -/
inductive Reject where
  /-- The word matches no row: an unassigned encoding (R134, R150 (a), (b)). -/
  | unassigned
  /-- The word opens one of the spaces kept for 32-bit forms: a 16-bit reserved encoding (R151). -/
  | reserved32
  /-- There are too few bytes: fewer than two, or fewer than four after a first word 8Axx (R148). -/
  | truncated
  deriving DecidableEq, Repr

/-- Nibble 3 of an instruction word, `iw[15:12]` (R9). -/
def nib3 (w : Half) : Nibble := w.extractLsb' 12 4

/-- Nibble 2, `iw[11:8]` (R9). -/
def nib2 (w : Half) : Nibble := w.extractLsb' 8 4

/-- Nibble 1, `iw[7:4]` (R9). -/
def nib1 (w : Half) : Nibble := w.extractLsb' 4 4

/-- Nibble 0, `iw[3:0]` (R9). -/
def nib0 (w : Half) : Nibble := w.extractLsb' 0 4

/-- The word of four nibbles, most significant first (R9). -/
def word4 (a b c d : Nibble) : Half := a ++ b ++ c ++ d

/-- An instruction is 32 bits long if and only if `iw[15:8] = 0x8A` (R148). -/
def isTwoWord (iw : Half) : Bool := iw.extractLsb' 8 8 == 0x8A#8

/-- Group `0---` (R135). -/
def decodeGroup0 (b c d : Nibble) : Except Reject Instr :=
  match d.toNat with
  | 2 =>
    if c.msb then .ok (.stcBank b (c.extractLsb' 0 3)) else
    match c.toNat with
    | 0 => .ok (.stcSr b)
    | 1 => .ok (.stcGbr b)
    | 2 => .ok (.stcVbr b)
    | 3 => .ok (.stcSsr b)
    | 4 => .ok (.stcSpc b)
    | 5 => .ok (.stcUnk052 b)
    | _ => .error .unassigned
  | 3 =>
    match c.toNat with
    | 0 => .ok (.bsrf b)
    | 2 => .ok (.bsaf b)
    | 6 => .ok (.movliL b)
    | 7 => .ok (.movcoL b)
    | 8 => .ok (.pref b)
    | 9 => .ok (.ocbi b)
    | 10 => .ok (.ocbp b)
    | 11 => .ok (.ocbwb b)
    | 12 => .ok (.movcaL b)
    | 14 => .ok (.icbi b)
    | _ => .error .unassigned
  | 4 => .ok (.movBStoreIdx b c)
  | 5 => .ok (.movWStoreIdx b c)
  | 6 => .ok (.movLStoreIdx b c)
  | 7 => .ok (.mulL b c)
  | 8 =>
    match c.toNat with
    | 0 =>
      match b.toNat with
      | 0 => .ok .clrt
      | _ => .error .unassigned
    | 1 =>
      match b.toNat with
      | 0 => .ok .sett
      | _ => .error .unassigned
    | 2 =>
      match b.toNat with
      | 0 => .ok .clrmac
      | _ => .error .unassigned
    | 3 =>
      match b.toNat with
      | 0 => .ok .ldtlb
      | _ => .error .unassigned
    | 4 =>
      match b.toNat with
      | 0 => .ok .clrs
      | _ => .error .unassigned
    | 5 =>
      match b.toNat with
      | 0 => .ok .sets
      | _ => .error .unassigned
    | 6 =>
      match b.toNat with
      | 0 => .ok .nott
      | _ => .error .unassigned
    | _ => .error .unassigned
  | 9 =>
    match c.toNat with
    | 0 =>
      match b.toNat with
      | 0 => .ok .nop
      | _ => .error .unassigned
    | 1 =>
      match b.toNat with
      | 0 => .ok .div0u
      | _ => .error .unassigned
    | 2 => .ok (.movt b)
    | 3 => .ok (.movrt b)
    | 10 => .ok (.movuaL0 b)
    | 14 => .ok (.movuaLInc0 b)
    | _ => .error .unassigned
  | 10 =>
    match c.toNat with
    | 0 => .ok (.stsMach b)
    | 1 => .ok (.stsMacl b)
    | 2 => .ok (.stsPr b)
    | 3 => .ok (.stcSgr b)
    | 4 => .ok (.stcUnk04A b)
    | 5 => .ok (.stsFpul b)
    | 6 => .ok (.stsFpscr b)
    | _ => .error .unassigned
  | 11 =>
    match c.toNat with
    | 0 =>
      match b.toNat with
      | 0 => .ok .rts
      | _ => .error .unassigned
    | 1 =>
      match b.toNat with
      | 0 => .ok .sleep
      | _ => .error .unassigned
    | 2 =>
      match b.toNat with
      | 0 => .ok .rte
      | _ => .error .unassigned
    | 3 =>
      match b.toNat with
      | 0 => .ok .brk
      | _ => .error .unassigned
    | 5 =>
      match b.toNat with
      | 0 => .ok .resbank
      | _ => .error .unassigned
    | 6 =>
      match b.toNat with
      | 0 => .ok .rtsN
      | _ => .error .unassigned
    | 7 => .ok (.rtvN b)
    | 10 =>
      match b.toNat with
      | 0 => .ok .synco
      | _ => .error .unassigned
    | _ => .error .unassigned
  | 12 => .ok (.movBLoadIdx b c)
  | 13 => .ok (.movWLoadIdx b c)
  | 14 => .ok (.movLLoadIdx b c)
  | 15 => .ok (.macL b c)
  | 0 => .error .reserved32
  | 1 => .error .reserved32
  | _ => .error .unassigned

/-- Group `1---` (R136). -/
def decodeGroup1 (b c d : Nibble) : Except Reject Instr := .ok (.movLStoreDisp b c d)

/-- Group `2---` (R137). -/
def decodeGroup2 (b c d : Nibble) : Except Reject Instr :=
  match d.toNat with
  | 0 => .ok (.movBStore b c)
  | 1 => .ok (.movWStore b c)
  | 2 => .ok (.movLStore b c)
  | 3 => .ok (.casL b c)
  | 4 => .ok (.movBPush b c)
  | 5 => .ok (.movWPush b c)
  | 6 => .ok (.movLPush b c)
  | 7 => .ok (.div0s b c)
  | 8 => .ok (.tstR b c)
  | 9 => .ok (.andR b c)
  | 10 => .ok (.xorR b c)
  | 11 => .ok (.orR b c)
  | 12 => .ok (.cmpstr b c)
  | 13 => .ok (.xtrct b c)
  | 14 => .ok (.muluW b c)
  | 15 => .ok (.mulsW b c)
  | _ => .error .unassigned

/-- Group `3---` (R138). -/
def decodeGroup3 (b c d : Nibble) : Except Reject Instr :=
  match d.toNat with
  | 0 => .ok (.cmpeqR b c)
  | 2 => .ok (.cmphs b c)
  | 3 => .ok (.cmpge b c)
  | 4 => .ok (.div1 b c)
  | 5 => .ok (.dmuluL b c)
  | 6 => .ok (.cmphi b c)
  | 7 => .ok (.cmpgt b c)
  | 8 => .ok (.subR b c)
  | 10 => .ok (.subc b c)
  | 11 => .ok (.subv b c)
  | 12 => .ok (.addR b c)
  | 13 => .ok (.dmulsL b c)
  | 14 => .ok (.addc b c)
  | 15 => .ok (.addv b c)
  | 1 => .error .reserved32
  | 9 => .error .reserved32
  | _ => .error .unassigned

/-- Group `4---` (R139). -/
def decodeGroup4 (b c d : Nibble) : Except Reject Instr :=
  match d.toNat with
  | 0 =>
    match c.toNat with
    | 0 => .ok (.shll b)
    | 1 => .ok (.dt b)
    | 2 => .ok (.shal b)
    | 8 => .ok (.mulr b)
    | 15 => .ok (.movmuLPush b)
    | _ => .error .unassigned
  | 1 =>
    match c.toNat with
    | 0 => .ok (.shlr b)
    | 1 => .ok (.cmppz b)
    | 2 => .ok (.shar b)
    | 8 => .ok (.clipuB b)
    | 9 => .ok (.clipsB b)
    | 14 => .ok (.stbank b)
    | 15 => .ok (.movmlLPush b)
    | _ => .error .unassigned
  | 2 =>
    match c.toNat with
    | 0 => .ok (.stslMach b)
    | 1 => .ok (.stslMacl b)
    | 2 => .ok (.stslPr b)
    | 3 => .ok (.stclSgr b)
    | 4 => .ok (.stclUnk42 b)
    | 5 => .ok (.stslFpul b)
    | 6 => .ok (.stslFpscr b)
    | _ => .error .unassigned
  | 3 =>
    if c.msb then .ok (.stclBank b (c.extractLsb' 0 3)) else
    match c.toNat with
    | 0 => .ok (.stclSr b)
    | 1 => .ok (.stclGbr b)
    | 2 => .ok (.stclVbr b)
    | 3 => .ok (.stclSsr b)
    | 4 => .ok (.stclSpc b)
    | 5 => .ok (.stclUnk53 b)
    | _ => .error .unassigned
  | 4 =>
    match c.toNat with
    | 0 => .ok (.rotl b)
    | 2 => .ok (.rotcl b)
    | 8 => .ok (.divu b)
    | 9 => .ok (.divs b)
    | 15 => .ok (.movmuLPop b)
    | _ => .error .unassigned
  | 5 =>
    match c.toNat with
    | 0 => .ok (.rotr b)
    | 1 => .ok (.cmppl b)
    | 2 => .ok (.rotcr b)
    | 8 => .ok (.clipuW b)
    | 9 => .ok (.clipsW b)
    | 14 => .ok (.ldbank b)
    | 15 => .ok (.movmlLPop b)
    | _ => .error .unassigned
  | 6 =>
    match c.toNat with
    | 0 => .ok (.ldslMach b)
    | 1 => .ok (.ldslMacl b)
    | 2 => .ok (.ldslPr b)
    | 3 => .ok (.ldclSgr b)
    | 4 => .ok (.ldclUnk46 b)
    | 5 => .ok (.ldslFpul b)
    | 6 => .ok (.ldslFpscr b)
    | _ => .error .unassigned
  | 7 =>
    if c.msb then .ok (.ldclBank b (c.extractLsb' 0 3)) else
    match c.toNat with
    | 0 => .ok (.ldclSr b)
    | 1 => .ok (.ldclGbr b)
    | 2 => .ok (.ldclVbr b)
    | 3 => .ok (.ldclSsr b)
    | 4 => .ok (.ldclSpc b)
    | 5 => .ok (.ldclUnk57 b)
    | _ => .error .unassigned
  | 8 =>
    match c.toNat with
    | 0 => .ok (.shll2 b)
    | 1 => .ok (.shll8 b)
    | 2 => .ok (.shll16 b)
    | _ => .error .unassigned
  | 9 =>
    match c.toNat with
    | 0 => .ok (.shlr2 b)
    | 1 => .ok (.shlr8 b)
    | 2 => .ok (.shlr16 b)
    | 10 => .ok (.movuaL4 b)
    | 14 => .ok (.movuaLInc4 b)
    | _ => .error .unassigned
  | 10 =>
    match c.toNat with
    | 0 => .ok (.ldsMach b)
    | 1 => .ok (.ldsMacl b)
    | 2 => .ok (.ldsPr b)
    | 3 => .ok (.ldcSgr b)
    | 4 => .ok (.ldcUnk4A b)
    | 5 => .ok (.ldsFpul b)
    | 6 => .ok (.ldsFpscr b)
    | _ => .error .unassigned
  | 11 =>
    match c.toNat with
    | 0 => .ok (.jsr b)
    | 1 => .ok (.tasB b)
    | 2 => .ok (.jmp b)
    | 4 => .ok (.jsrN4B b)
    | 8 => .ok (.movBStoreInc b)
    | 9 => .ok (.movWStoreInc b)
    | 10 => .ok (.movLStoreInc b)
    | 12 => .ok (.movBLoadDec b)
    | 13 => .ok (.movWLoadDec b)
    | 14 => .ok (.movLLoadDec b)
    | _ => .error .unassigned
  | 12 => .ok (.shad b c)
  | 13 => .ok (.shld b c)
  | 14 =>
    if c.msb then .ok (.ldcBank b (c.extractLsb' 0 3)) else
    match c.toNat with
    | 0 => .ok (.ldcSr b)
    | 1 => .ok (.ldcGbr b)
    | 2 => .ok (.ldcVbr b)
    | 3 => .ok (.ldcSsr b)
    | 4 => .ok (.ldcSpc b)
    | 5 => .ok (.ldcUnk5E b)
    | _ => .error .unassigned
  | 15 => .ok (.macW b c)
  | _ => .error .unassigned

/-- Group `5---` (R140). -/
def decodeGroup5 (b c d : Nibble) : Except Reject Instr := .ok (.movLLoadDisp b c d)

/-- Group `6---` (R141). -/
def decodeGroup6 (b c d : Nibble) : Except Reject Instr :=
  match d.toNat with
  | 0 => .ok (.movBLoad b c)
  | 1 => .ok (.movWLoad b c)
  | 2 => .ok (.movLLoad b c)
  | 3 => .ok (.movR b c)
  | 4 => .ok (.movBLoadInc b c)
  | 5 => .ok (.movWLoadInc b c)
  | 6 => .ok (.movLLoadInc b c)
  | 7 => .ok (.notR b c)
  | 8 => .ok (.swapB b c)
  | 9 => .ok (.swapW b c)
  | 10 => .ok (.negc b c)
  | 11 => .ok (.neg b c)
  | 12 => .ok (.extuB b c)
  | 13 => .ok (.extuW b c)
  | 14 => .ok (.extsB b c)
  | 15 => .ok (.extsW b c)
  | _ => .error .unassigned

/-- Group `7---` (R142). -/
def decodeGroup7 (b c d : Nibble) : Except Reject Instr := .ok (.addI b (c ++ d))

/-- Group `8---` (R143, R148). -/
def decodeGroup8 (b c d : Nibble) (iw2 : Half) : Except Reject Instr :=
  match b.toNat with
  | 0 => .ok (.movBStoreDisp c d)
  | 1 => .ok (.movWStoreDisp c d)
  | 3 => .ok (.jsrN83 (c ++ d))
  | 4 => .ok (.movBLoadDisp c d)
  | 5 => .ok (.movWLoadDisp c d)
  | 6 => .ok (.bsetBclr (c ++ d))
  | 7 => .ok (.bstBld (c ++ d))
  | 8 => .ok (.cmpeqI (c ++ d))
  | 9 => .ok (.bt (c ++ d))
  | 10 => .ok (.movi24 (c ++ d ++ iw2))
  | 11 => .ok (.bf (c ++ d))
  | 12 => .ok (.ldsh8 (c ++ d))
  | 13 => .ok (.bts (c ++ d))
  | 14 => .ok (.xpfx0 (c ++ d))
  | 15 => .ok (.bfs (c ++ d))
  | _ => .error .unassigned

/-- Group `9---` (R144). -/
def decodeGroup9 (b c d : Nibble) : Except Reject Instr := .ok (.movWLoadPc b (c ++ d))

/-- Group `A---` (R144). -/
def decodeGroupA (b c d : Nibble) : Except Reject Instr := .ok (.bra (b ++ c ++ d))

/-- Group `B---` (R144). -/
def decodeGroupB (b c d : Nibble) : Except Reject Instr := .ok (.bsr (b ++ c ++ d))

/-- Group `C---` (R145). -/
def decodeGroupC (b c d : Nibble) : Except Reject Instr :=
  match b.toNat with
  | 0 => .ok (.movBStoreGbr (c ++ d))
  | 1 => .ok (.movWStoreGbr (c ++ d))
  | 2 => .ok (.movLStoreGbr (c ++ d))
  | 3 => .ok (.trapa (c ++ d))
  | 4 => .ok (.movBLoadGbr (c ++ d))
  | 5 => .ok (.movWLoadGbr (c ++ d))
  | 6 => .ok (.movLLoadGbr (c ++ d))
  | 7 => .ok (.mova (c ++ d))
  | 8 => .ok (.tstI (c ++ d))
  | 9 => .ok (.andI (c ++ d))
  | 10 => .ok (.xorI (c ++ d))
  | 11 => .ok (.orI (c ++ d))
  | 12 => .ok (.tstBGbr (c ++ d))
  | 13 => .ok (.andBGbr (c ++ d))
  | 14 => .ok (.xorBGbr (c ++ d))
  | 15 => .ok (.orBGbr (c ++ d))
  | _ => .error .unassigned

/-- Group `D---` (R146). -/
def decodeGroupD (b c d : Nibble) : Except Reject Instr := .ok (.movLLoadPc b (c ++ d))

/-- Group `E---` (R146). -/
def decodeGroupE (b c d : Nibble) : Except Reject Instr := .ok (.movI b (c ++ d))

/-- Group `F---` (R147). -/
def decodeGroupF (b c d : Nibble) : Except Reject Instr :=
  match d.toNat with
  | 0 => .ok (.fadd b c)
  | 1 => .ok (.fsub b c)
  | 2 => .ok (.fmul b c)
  | 3 => .ok (.fdiv b c)
  | 4 => .ok (.fcmpeq b c)
  | 5 => .ok (.fcmpgt b c)
  | 6 => .ok (.fmovLoadIdx b c)
  | 7 => .ok (.fmovStoreIdx b c)
  | 8 => .ok (.fmovLoad b c)
  | 9 => .ok (.fmovLoadInc b c)
  | 10 => .ok (.fmovStore b c)
  | 11 => .ok (.fmovPush b c)
  | 12 => .ok (.fmovR b c)
  | 13 =>
    match c.toNat with
    | 0 => .ok (.fsts b)
    | 1 => .ok (.flds b)
    | 2 => .ok (.float b)
    | 3 => .ok (.ftrc b)
    | 4 => .ok (.fneg b)
    | 5 => .ok (.fabs b)
    | 6 => .ok (.fsqrt b)
    | 7 => .ok (.fsrra b)
    | 8 => .ok (.fldi0 b)
    | 9 => .ok (.fldi1 b)
    | 10 => .ok (.fcnvsd b)
    | 11 => .ok (.fcnvds b)
    | 14 => .ok (.fipr b)
    | 15 =>
      match b.toNat with
      | 0 => .ok .fscaF0
      | 1 => .ok .ftrv2F1
      | 2 => .ok .fscaF2
      | 3 => .ok .fschg
      | 4 => .ok .fscaF4
      | 5 => .ok .ftrv2F5
      | 6 => .ok .fscaF6
      | 7 => .ok .fpchg
      | 8 => .ok .fscaF8
      | 9 => .ok .ftrv2F9
      | 10 => .ok .fscaFA
      | 11 => .ok .frchg
      | 12 => .ok .fscaFC
      | 13 => .ok .ftrv2FD
      | 14 => .ok .fscaFE
      | _ => .error .unassigned
    | _ => .error .unassigned
  | 14 => .ok (.fmac b c)
  | 15 => .ok (.resFF b c)
  | _ => .error .unassigned

/-- The instruction whose first word is `iw`; `iw2` is the word after it, which only `MOVI24` reads
(R134, R148). -/
def decode (iw iw2 : Half) : Except Reject Instr :=
  match (nib3 iw).toNat with
  | 0 => decodeGroup0 (nib2 iw) (nib1 iw) (nib0 iw)
  | 1 => decodeGroup1 (nib2 iw) (nib1 iw) (nib0 iw)
  | 2 => decodeGroup2 (nib2 iw) (nib1 iw) (nib0 iw)
  | 3 => decodeGroup3 (nib2 iw) (nib1 iw) (nib0 iw)
  | 4 => decodeGroup4 (nib2 iw) (nib1 iw) (nib0 iw)
  | 5 => decodeGroup5 (nib2 iw) (nib1 iw) (nib0 iw)
  | 6 => decodeGroup6 (nib2 iw) (nib1 iw) (nib0 iw)
  | 7 => decodeGroup7 (nib2 iw) (nib1 iw) (nib0 iw)
  | 8 => decodeGroup8 (nib2 iw) (nib1 iw) (nib0 iw) iw2
  | 9 => decodeGroup9 (nib2 iw) (nib1 iw) (nib0 iw)
  | 10 => decodeGroupA (nib2 iw) (nib1 iw) (nib0 iw)
  | 11 => decodeGroupB (nib2 iw) (nib1 iw) (nib0 iw)
  | 12 => decodeGroupC (nib2 iw) (nib1 iw) (nib0 iw)
  | 13 => decodeGroupD (nib2 iw) (nib1 iw) (nib0 iw)
  | 14 => decodeGroupE (nib2 iw) (nib1 iw) (nib0 iw)
  | _ => decodeGroupF (nib2 iw) (nib1 iw) (nib0 iw)

/-- The word that two bytes in rising address order hold (R157). -/
def wordOfBytes (e : Endian) (b0 b1 : Byte) : Half :=
  match e with
  | .little => b1 ++ b0
  | .big => b0 ++ b1

/-- The two bytes, in rising address order, that hold a word (R157). -/
def bytesOfWord (e : Endian) (w : Half) : List Byte :=
  match e with
  | .little => [w.extractLsb' 0 8, w.extractLsb' 8 8]
  | .big => [w.extractLsb' 8 8, w.extractLsb' 0 8]

/-- The instruction that starts at the first of these bytes; bytes after it are not looked at. -/
def decodeBytes (e : Endian) : List Byte → Except Reject Instr
  | b0 :: b1 :: rest =>
    if isTwoWord (wordOfBytes e b0 b1) then
      match rest with
      | b2 :: b3 :: _ => decode (wordOfBytes e b0 b1) (wordOfBytes e b2 b3)
      | _ => .error .truncated
    else decode (wordOfBytes e b0 b1) 0
  | _ => .error .truncated

/-- The words of an instruction, first word first (R126 to R148, R415 to R419). -/
def encode : Instr → List Half
  | .stcSr n => [word4 0x0#4 n 0x0#4 0x2#4]
  | .stcGbr n => [word4 0x0#4 n 0x1#4 0x2#4]
  | .stcVbr n => [word4 0x0#4 n 0x2#4 0x2#4]
  | .stcSsr n => [word4 0x0#4 n 0x3#4 0x2#4]
  | .stcSpc n => [word4 0x0#4 n 0x4#4 0x2#4]
  | .stcUnk052 n => [word4 0x0#4 n 0x5#4 0x2#4]
  | .stcBank n mb => [word4 0x0#4 n (1#1 ++ mb) 0x2#4]
  | .bsrf m => [word4 0x0#4 m 0x0#4 0x3#4]
  | .bsaf m => [word4 0x0#4 m 0x2#4 0x3#4]
  | .movliL n => [word4 0x0#4 n 0x6#4 0x3#4]
  | .movcoL n => [word4 0x0#4 n 0x7#4 0x3#4]
  | .pref n => [word4 0x0#4 n 0x8#4 0x3#4]
  | .ocbi n => [word4 0x0#4 n 0x9#4 0x3#4]
  | .ocbp n => [word4 0x0#4 n 0xA#4 0x3#4]
  | .ocbwb n => [word4 0x0#4 n 0xB#4 0x3#4]
  | .movcaL n => [word4 0x0#4 n 0xC#4 0x3#4]
  | .icbi n => [word4 0x0#4 n 0xE#4 0x3#4]
  | .movBStoreIdx n m => [word4 0x0#4 n m 0x4#4]
  | .movWStoreIdx n m => [word4 0x0#4 n m 0x5#4]
  | .movLStoreIdx n m => [word4 0x0#4 n m 0x6#4]
  | .mulL n m => [word4 0x0#4 n m 0x7#4]
  | .clrt => [word4 0x0#4 0x0#4 0x0#4 0x8#4]
  | .sett => [word4 0x0#4 0x0#4 0x1#4 0x8#4]
  | .clrmac => [word4 0x0#4 0x0#4 0x2#4 0x8#4]
  | .ldtlb => [word4 0x0#4 0x0#4 0x3#4 0x8#4]
  | .clrs => [word4 0x0#4 0x0#4 0x4#4 0x8#4]
  | .sets => [word4 0x0#4 0x0#4 0x5#4 0x8#4]
  | .nott => [word4 0x0#4 0x0#4 0x6#4 0x8#4]
  | .nop => [word4 0x0#4 0x0#4 0x0#4 0x9#4]
  | .div0u => [word4 0x0#4 0x0#4 0x1#4 0x9#4]
  | .movt n => [word4 0x0#4 n 0x2#4 0x9#4]
  | .movrt n => [word4 0x0#4 n 0x3#4 0x9#4]
  | .movuaL0 m => [word4 0x0#4 m 0xA#4 0x9#4]
  | .movuaLInc0 m => [word4 0x0#4 m 0xE#4 0x9#4]
  | .stsMach n => [word4 0x0#4 n 0x0#4 0xA#4]
  | .stsMacl n => [word4 0x0#4 n 0x1#4 0xA#4]
  | .stsPr n => [word4 0x0#4 n 0x2#4 0xA#4]
  | .stcSgr n => [word4 0x0#4 n 0x3#4 0xA#4]
  | .stcUnk04A n => [word4 0x0#4 n 0x4#4 0xA#4]
  | .stsFpul n => [word4 0x0#4 n 0x5#4 0xA#4]
  | .stsFpscr n => [word4 0x0#4 n 0x6#4 0xA#4]
  | .rts => [word4 0x0#4 0x0#4 0x0#4 0xB#4]
  | .sleep => [word4 0x0#4 0x0#4 0x1#4 0xB#4]
  | .rte => [word4 0x0#4 0x0#4 0x2#4 0xB#4]
  | .brk => [word4 0x0#4 0x0#4 0x3#4 0xB#4]
  | .resbank => [word4 0x0#4 0x0#4 0x5#4 0xB#4]
  | .rtsN => [word4 0x0#4 0x0#4 0x6#4 0xB#4]
  | .rtvN m => [word4 0x0#4 m 0x7#4 0xB#4]
  | .synco => [word4 0x0#4 0x0#4 0xA#4 0xB#4]
  | .movBLoadIdx n m => [word4 0x0#4 n m 0xC#4]
  | .movWLoadIdx n m => [word4 0x0#4 n m 0xD#4]
  | .movLLoadIdx n m => [word4 0x0#4 n m 0xE#4]
  | .macL n m => [word4 0x0#4 n m 0xF#4]
  | .movLStoreDisp n m disp => [word4 0x1#4 n m disp]
  | .movBStore n m => [word4 0x2#4 n m 0x0#4]
  | .movWStore n m => [word4 0x2#4 n m 0x1#4]
  | .movLStore n m => [word4 0x2#4 n m 0x2#4]
  | .casL n m => [word4 0x2#4 n m 0x3#4]
  | .movBPush n m => [word4 0x2#4 n m 0x4#4]
  | .movWPush n m => [word4 0x2#4 n m 0x5#4]
  | .movLPush n m => [word4 0x2#4 n m 0x6#4]
  | .div0s n m => [word4 0x2#4 n m 0x7#4]
  | .tstR n m => [word4 0x2#4 n m 0x8#4]
  | .andR n m => [word4 0x2#4 n m 0x9#4]
  | .xorR n m => [word4 0x2#4 n m 0xA#4]
  | .orR n m => [word4 0x2#4 n m 0xB#4]
  | .cmpstr n m => [word4 0x2#4 n m 0xC#4]
  | .xtrct n m => [word4 0x2#4 n m 0xD#4]
  | .muluW n m => [word4 0x2#4 n m 0xE#4]
  | .mulsW n m => [word4 0x2#4 n m 0xF#4]
  | .cmpeqR n m => [word4 0x3#4 n m 0x0#4]
  | .cmphs n m => [word4 0x3#4 n m 0x2#4]
  | .cmpge n m => [word4 0x3#4 n m 0x3#4]
  | .div1 n m => [word4 0x3#4 n m 0x4#4]
  | .dmuluL n m => [word4 0x3#4 n m 0x5#4]
  | .cmphi n m => [word4 0x3#4 n m 0x6#4]
  | .cmpgt n m => [word4 0x3#4 n m 0x7#4]
  | .subR n m => [word4 0x3#4 n m 0x8#4]
  | .subc n m => [word4 0x3#4 n m 0xA#4]
  | .subv n m => [word4 0x3#4 n m 0xB#4]
  | .addR n m => [word4 0x3#4 n m 0xC#4]
  | .dmulsL n m => [word4 0x3#4 n m 0xD#4]
  | .addc n m => [word4 0x3#4 n m 0xE#4]
  | .addv n m => [word4 0x3#4 n m 0xF#4]
  | .shll n => [word4 0x4#4 n 0x0#4 0x0#4]
  | .dt n => [word4 0x4#4 n 0x1#4 0x0#4]
  | .shal n => [word4 0x4#4 n 0x2#4 0x0#4]
  | .mulr n => [word4 0x4#4 n 0x8#4 0x0#4]
  | .movmuLPush m => [word4 0x4#4 m 0xF#4 0x0#4]
  | .shlr n => [word4 0x4#4 n 0x0#4 0x1#4]
  | .cmppz n => [word4 0x4#4 n 0x1#4 0x1#4]
  | .shar n => [word4 0x4#4 n 0x2#4 0x1#4]
  | .clipuB n => [word4 0x4#4 n 0x8#4 0x1#4]
  | .clipsB n => [word4 0x4#4 n 0x9#4 0x1#4]
  | .stbank n => [word4 0x4#4 n 0xE#4 0x1#4]
  | .movmlLPush m => [word4 0x4#4 m 0xF#4 0x1#4]
  | .stslMach n => [word4 0x4#4 n 0x0#4 0x2#4]
  | .stslMacl n => [word4 0x4#4 n 0x1#4 0x2#4]
  | .stslPr n => [word4 0x4#4 n 0x2#4 0x2#4]
  | .stclSgr n => [word4 0x4#4 n 0x3#4 0x2#4]
  | .stclUnk42 n => [word4 0x4#4 n 0x4#4 0x2#4]
  | .stslFpul n => [word4 0x4#4 n 0x5#4 0x2#4]
  | .stslFpscr n => [word4 0x4#4 n 0x6#4 0x2#4]
  | .stclSr n => [word4 0x4#4 n 0x0#4 0x3#4]
  | .stclGbr n => [word4 0x4#4 n 0x1#4 0x3#4]
  | .stclVbr n => [word4 0x4#4 n 0x2#4 0x3#4]
  | .stclSsr n => [word4 0x4#4 n 0x3#4 0x3#4]
  | .stclSpc n => [word4 0x4#4 n 0x4#4 0x3#4]
  | .stclUnk53 n => [word4 0x4#4 n 0x5#4 0x3#4]
  | .stclBank n mb => [word4 0x4#4 n (1#1 ++ mb) 0x3#4]
  | .rotl n => [word4 0x4#4 n 0x0#4 0x4#4]
  | .rotcl n => [word4 0x4#4 n 0x2#4 0x4#4]
  | .divu n => [word4 0x4#4 n 0x8#4 0x4#4]
  | .divs n => [word4 0x4#4 n 0x9#4 0x4#4]
  | .movmuLPop n => [word4 0x4#4 n 0xF#4 0x4#4]
  | .rotr n => [word4 0x4#4 n 0x0#4 0x5#4]
  | .cmppl n => [word4 0x4#4 n 0x1#4 0x5#4]
  | .rotcr n => [word4 0x4#4 n 0x2#4 0x5#4]
  | .clipuW n => [word4 0x4#4 n 0x8#4 0x5#4]
  | .clipsW n => [word4 0x4#4 n 0x9#4 0x5#4]
  | .ldbank m => [word4 0x4#4 m 0xE#4 0x5#4]
  | .movmlLPop n => [word4 0x4#4 n 0xF#4 0x5#4]
  | .ldslMach m => [word4 0x4#4 m 0x0#4 0x6#4]
  | .ldslMacl m => [word4 0x4#4 m 0x1#4 0x6#4]
  | .ldslPr m => [word4 0x4#4 m 0x2#4 0x6#4]
  | .ldclSgr m => [word4 0x4#4 m 0x3#4 0x6#4]
  | .ldclUnk46 m => [word4 0x4#4 m 0x4#4 0x6#4]
  | .ldslFpul m => [word4 0x4#4 m 0x5#4 0x6#4]
  | .ldslFpscr m => [word4 0x4#4 m 0x6#4 0x6#4]
  | .ldclSr m => [word4 0x4#4 m 0x0#4 0x7#4]
  | .ldclGbr m => [word4 0x4#4 m 0x1#4 0x7#4]
  | .ldclVbr m => [word4 0x4#4 m 0x2#4 0x7#4]
  | .ldclSsr m => [word4 0x4#4 m 0x3#4 0x7#4]
  | .ldclSpc m => [word4 0x4#4 m 0x4#4 0x7#4]
  | .ldclUnk57 m => [word4 0x4#4 m 0x5#4 0x7#4]
  | .ldclBank m nb => [word4 0x4#4 m (1#1 ++ nb) 0x7#4]
  | .shll2 n => [word4 0x4#4 n 0x0#4 0x8#4]
  | .shll8 n => [word4 0x4#4 n 0x1#4 0x8#4]
  | .shll16 n => [word4 0x4#4 n 0x2#4 0x8#4]
  | .shlr2 n => [word4 0x4#4 n 0x0#4 0x9#4]
  | .shlr8 n => [word4 0x4#4 n 0x1#4 0x9#4]
  | .shlr16 n => [word4 0x4#4 n 0x2#4 0x9#4]
  | .movuaL4 m => [word4 0x4#4 m 0xA#4 0x9#4]
  | .movuaLInc4 m => [word4 0x4#4 m 0xE#4 0x9#4]
  | .ldsMach m => [word4 0x4#4 m 0x0#4 0xA#4]
  | .ldsMacl m => [word4 0x4#4 m 0x1#4 0xA#4]
  | .ldsPr m => [word4 0x4#4 m 0x2#4 0xA#4]
  | .ldcSgr m => [word4 0x4#4 m 0x3#4 0xA#4]
  | .ldcUnk4A m => [word4 0x4#4 m 0x4#4 0xA#4]
  | .ldsFpul m => [word4 0x4#4 m 0x5#4 0xA#4]
  | .ldsFpscr m => [word4 0x4#4 m 0x6#4 0xA#4]
  | .jsr m => [word4 0x4#4 m 0x0#4 0xB#4]
  | .tasB m => [word4 0x4#4 m 0x1#4 0xB#4]
  | .jmp m => [word4 0x4#4 m 0x2#4 0xB#4]
  | .jsrN4B m => [word4 0x4#4 m 0x4#4 0xB#4]
  | .movBStoreInc m => [word4 0x4#4 m 0x8#4 0xB#4]
  | .movWStoreInc m => [word4 0x4#4 m 0x9#4 0xB#4]
  | .movLStoreInc m => [word4 0x4#4 m 0xA#4 0xB#4]
  | .movBLoadDec m => [word4 0x4#4 m 0xC#4 0xB#4]
  | .movWLoadDec m => [word4 0x4#4 m 0xD#4 0xB#4]
  | .movLLoadDec m => [word4 0x4#4 m 0xE#4 0xB#4]
  | .shad n m => [word4 0x4#4 n m 0xC#4]
  | .shld n m => [word4 0x4#4 n m 0xD#4]
  | .ldcSr m => [word4 0x4#4 m 0x0#4 0xE#4]
  | .ldcGbr m => [word4 0x4#4 m 0x1#4 0xE#4]
  | .ldcVbr m => [word4 0x4#4 m 0x2#4 0xE#4]
  | .ldcSsr m => [word4 0x4#4 m 0x3#4 0xE#4]
  | .ldcSpc m => [word4 0x4#4 m 0x4#4 0xE#4]
  | .ldcUnk5E m => [word4 0x4#4 m 0x5#4 0xE#4]
  | .ldcBank m nb => [word4 0x4#4 m (1#1 ++ nb) 0xE#4]
  | .macW n m => [word4 0x4#4 n m 0xF#4]
  | .movLLoadDisp n m disp => [word4 0x5#4 n m disp]
  | .movBLoad n m => [word4 0x6#4 n m 0x0#4]
  | .movWLoad n m => [word4 0x6#4 n m 0x1#4]
  | .movLLoad n m => [word4 0x6#4 n m 0x2#4]
  | .movR n m => [word4 0x6#4 n m 0x3#4]
  | .movBLoadInc n m => [word4 0x6#4 n m 0x4#4]
  | .movWLoadInc n m => [word4 0x6#4 n m 0x5#4]
  | .movLLoadInc n m => [word4 0x6#4 n m 0x6#4]
  | .notR n m => [word4 0x6#4 n m 0x7#4]
  | .swapB n m => [word4 0x6#4 n m 0x8#4]
  | .swapW n m => [word4 0x6#4 n m 0x9#4]
  | .negc n m => [word4 0x6#4 n m 0xA#4]
  | .neg n m => [word4 0x6#4 n m 0xB#4]
  | .extuB n m => [word4 0x6#4 n m 0xC#4]
  | .extuW n m => [word4 0x6#4 n m 0xD#4]
  | .extsB n m => [word4 0x6#4 n m 0xE#4]
  | .extsW n m => [word4 0x6#4 n m 0xF#4]
  | .addI n imm => [word4 0x7#4 n (imm.extractLsb' 4 4) (imm.extractLsb' 0 4)]
  | .movBStoreDisp n disp => [word4 0x8#4 0x0#4 n disp]
  | .movWStoreDisp n disp => [word4 0x8#4 0x1#4 n disp]
  | .jsrN83 x => [word4 0x8#4 0x3#4 (x.extractLsb' 4 4) (x.extractLsb' 0 4)]
  | .movBLoadDisp m disp => [word4 0x8#4 0x4#4 m disp]
  | .movWLoadDisp m disp => [word4 0x8#4 0x5#4 m disp]
  | .bsetBclr x => [word4 0x8#4 0x6#4 (x.extractLsb' 4 4) (x.extractLsb' 0 4)]
  | .bstBld x => [word4 0x8#4 0x7#4 (x.extractLsb' 4 4) (x.extractLsb' 0 4)]
  | .cmpeqI imm => [word4 0x8#4 0x8#4 (imm.extractLsb' 4 4) (imm.extractLsb' 0 4)]
  | .bt disp => [word4 0x8#4 0x9#4 (disp.extractLsb' 4 4) (disp.extractLsb' 0 4)]
  | .movi24 imm =>
    [word4 0x8#4 0xA#4 (imm.extractLsb' 20 4) (imm.extractLsb' 16 4),
     imm.extractLsb' 0 16]
  | .bf disp => [word4 0x8#4 0xB#4 (disp.extractLsb' 4 4) (disp.extractLsb' 0 4)]
  | .ldsh8 imm => [word4 0x8#4 0xC#4 (imm.extractLsb' 4 4) (imm.extractLsb' 0 4)]
  | .bts disp => [word4 0x8#4 0xD#4 (disp.extractLsb' 4 4) (disp.extractLsb' 0 4)]
  | .xpfx0 imm => [word4 0x8#4 0xE#4 (imm.extractLsb' 4 4) (imm.extractLsb' 0 4)]
  | .bfs disp => [word4 0x8#4 0xF#4 (disp.extractLsb' 4 4) (disp.extractLsb' 0 4)]
  | .movWLoadPc n disp => [word4 0x9#4 n (disp.extractLsb' 4 4) (disp.extractLsb' 0 4)]
  | .bra disp => [word4 0xA#4 (disp.extractLsb' 8 4) (disp.extractLsb' 4 4) (disp.extractLsb' 0 4)]
  | .bsr disp => [word4 0xB#4 (disp.extractLsb' 8 4) (disp.extractLsb' 4 4) (disp.extractLsb' 0 4)]
  | .movBStoreGbr disp => [word4 0xC#4 0x0#4 (disp.extractLsb' 4 4) (disp.extractLsb' 0 4)]
  | .movWStoreGbr disp => [word4 0xC#4 0x1#4 (disp.extractLsb' 4 4) (disp.extractLsb' 0 4)]
  | .movLStoreGbr disp => [word4 0xC#4 0x2#4 (disp.extractLsb' 4 4) (disp.extractLsb' 0 4)]
  | .trapa imm => [word4 0xC#4 0x3#4 (imm.extractLsb' 4 4) (imm.extractLsb' 0 4)]
  | .movBLoadGbr disp => [word4 0xC#4 0x4#4 (disp.extractLsb' 4 4) (disp.extractLsb' 0 4)]
  | .movWLoadGbr disp => [word4 0xC#4 0x5#4 (disp.extractLsb' 4 4) (disp.extractLsb' 0 4)]
  | .movLLoadGbr disp => [word4 0xC#4 0x6#4 (disp.extractLsb' 4 4) (disp.extractLsb' 0 4)]
  | .mova disp => [word4 0xC#4 0x7#4 (disp.extractLsb' 4 4) (disp.extractLsb' 0 4)]
  | .tstI imm => [word4 0xC#4 0x8#4 (imm.extractLsb' 4 4) (imm.extractLsb' 0 4)]
  | .andI imm => [word4 0xC#4 0x9#4 (imm.extractLsb' 4 4) (imm.extractLsb' 0 4)]
  | .xorI imm => [word4 0xC#4 0xA#4 (imm.extractLsb' 4 4) (imm.extractLsb' 0 4)]
  | .orI imm => [word4 0xC#4 0xB#4 (imm.extractLsb' 4 4) (imm.extractLsb' 0 4)]
  | .tstBGbr imm => [word4 0xC#4 0xC#4 (imm.extractLsb' 4 4) (imm.extractLsb' 0 4)]
  | .andBGbr imm => [word4 0xC#4 0xD#4 (imm.extractLsb' 4 4) (imm.extractLsb' 0 4)]
  | .xorBGbr imm => [word4 0xC#4 0xE#4 (imm.extractLsb' 4 4) (imm.extractLsb' 0 4)]
  | .orBGbr imm => [word4 0xC#4 0xF#4 (imm.extractLsb' 4 4) (imm.extractLsb' 0 4)]
  | .movLLoadPc n disp => [word4 0xD#4 n (disp.extractLsb' 4 4) (disp.extractLsb' 0 4)]
  | .movI n imm => [word4 0xE#4 n (imm.extractLsb' 4 4) (imm.extractLsb' 0 4)]
  | .fadd n m => [word4 0xF#4 n m 0x0#4]
  | .fsub n m => [word4 0xF#4 n m 0x1#4]
  | .fmul n m => [word4 0xF#4 n m 0x2#4]
  | .fdiv n m => [word4 0xF#4 n m 0x3#4]
  | .fcmpeq n m => [word4 0xF#4 n m 0x4#4]
  | .fcmpgt n m => [word4 0xF#4 n m 0x5#4]
  | .fmovLoadIdx n m => [word4 0xF#4 n m 0x6#4]
  | .fmovStoreIdx n m => [word4 0xF#4 n m 0x7#4]
  | .fmovLoad n m => [word4 0xF#4 n m 0x8#4]
  | .fmovLoadInc n m => [word4 0xF#4 n m 0x9#4]
  | .fmovStore n m => [word4 0xF#4 n m 0xA#4]
  | .fmovPush n m => [word4 0xF#4 n m 0xB#4]
  | .fmovR n m => [word4 0xF#4 n m 0xC#4]
  | .fsts n => [word4 0xF#4 n 0x0#4 0xD#4]
  | .flds m => [word4 0xF#4 m 0x1#4 0xD#4]
  | .float n => [word4 0xF#4 n 0x2#4 0xD#4]
  | .ftrc m => [word4 0xF#4 m 0x3#4 0xD#4]
  | .fneg n => [word4 0xF#4 n 0x4#4 0xD#4]
  | .fabs n => [word4 0xF#4 n 0x5#4 0xD#4]
  | .fsqrt n => [word4 0xF#4 n 0x6#4 0xD#4]
  | .fsrra x => [word4 0xF#4 x 0x7#4 0xD#4]
  | .fldi0 n => [word4 0xF#4 n 0x8#4 0xD#4]
  | .fldi1 n => [word4 0xF#4 n 0x9#4 0xD#4]
  | .fcnvsd n => [word4 0xF#4 n 0xA#4 0xD#4]
  | .fcnvds m => [word4 0xF#4 m 0xB#4 0xD#4]
  | .fipr x => [word4 0xF#4 x 0xE#4 0xD#4]
  | .fscaF0 => [word4 0xF#4 0x0#4 0xF#4 0xD#4]
  | .ftrv2F1 => [word4 0xF#4 0x1#4 0xF#4 0xD#4]
  | .fscaF2 => [word4 0xF#4 0x2#4 0xF#4 0xD#4]
  | .fschg => [word4 0xF#4 0x3#4 0xF#4 0xD#4]
  | .fscaF4 => [word4 0xF#4 0x4#4 0xF#4 0xD#4]
  | .ftrv2F5 => [word4 0xF#4 0x5#4 0xF#4 0xD#4]
  | .fscaF6 => [word4 0xF#4 0x6#4 0xF#4 0xD#4]
  | .fpchg => [word4 0xF#4 0x7#4 0xF#4 0xD#4]
  | .fscaF8 => [word4 0xF#4 0x8#4 0xF#4 0xD#4]
  | .ftrv2F9 => [word4 0xF#4 0x9#4 0xF#4 0xD#4]
  | .fscaFA => [word4 0xF#4 0xA#4 0xF#4 0xD#4]
  | .frchg => [word4 0xF#4 0xB#4 0xF#4 0xD#4]
  | .fscaFC => [word4 0xF#4 0xC#4 0xF#4 0xD#4]
  | .ftrv2FD => [word4 0xF#4 0xD#4 0xF#4 0xD#4]
  | .fscaFE => [word4 0xF#4 0xE#4 0xF#4 0xD#4]
  | .fmac n m => [word4 0xF#4 n m 0xE#4]
  | .resFF x y => [word4 0xF#4 x y 0xF#4]
  | .movi20 n imm => [word4 0x0#4 n (imm.extractLsb' 16 4) 0x0#4, imm.extractLsb' 0 16]
  | .movi20s n imm => [word4 0x0#4 n (imm.extractLsb' 16 4) 0x1#4, imm.extractLsb' 0 16]
  | .movBStoreD12 n m disp =>
    [word4 0x3#4 n m 0x1#4,
     word4 0x0#4 (disp.extractLsb' 8 4) (disp.extractLsb' 4 4) (disp.extractLsb' 0 4)]
  | .movWStoreD12 n m disp =>
    [word4 0x3#4 n m 0x1#4,
     word4 0x1#4 (disp.extractLsb' 8 4) (disp.extractLsb' 4 4) (disp.extractLsb' 0 4)]
  | .movLStoreD12 n m disp =>
    [word4 0x3#4 n m 0x1#4,
     word4 0x2#4 (disp.extractLsb' 8 4) (disp.extractLsb' 4 4) (disp.extractLsb' 0 4)]
  | .fmovStoreD12 n m disp =>
    [word4 0x3#4 n m 0x1#4,
     word4 0x3#4 (disp.extractLsb' 8 4) (disp.extractLsb' 4 4) (disp.extractLsb' 0 4)]
  | .movBLoadD12 n m disp =>
    [word4 0x3#4 n m 0x1#4,
     word4 0x4#4 (disp.extractLsb' 8 4) (disp.extractLsb' 4 4) (disp.extractLsb' 0 4)]
  | .movWLoadD12 n m disp =>
    [word4 0x3#4 n m 0x1#4,
     word4 0x5#4 (disp.extractLsb' 8 4) (disp.extractLsb' 4 4) (disp.extractLsb' 0 4)]
  | .movLLoadD12 n m disp =>
    [word4 0x3#4 n m 0x1#4,
     word4 0x6#4 (disp.extractLsb' 8 4) (disp.extractLsb' 4 4) (disp.extractLsb' 0 4)]
  | .fmovLoadD12 n m disp =>
    [word4 0x3#4 n m 0x1#4,
     word4 0x7#4 (disp.extractLsb' 8 4) (disp.extractLsb' 4 4) (disp.extractLsb' 0 4)]
  | .movuBLoadD12 n m disp =>
    [word4 0x3#4 n m 0x1#4,
     word4 0x8#4 (disp.extractLsb' 8 4) (disp.extractLsb' 4 4) (disp.extractLsb' 0 4)]
  | .movuWLoadD12 n m disp =>
    [word4 0x3#4 n m 0x1#4,
     word4 0x9#4 (disp.extractLsb' 8 4) (disp.extractLsb' 4 4) (disp.extractLsb' 0 4)]
  | .bclrB n imm disp =>
    [word4 0x3#4 n imm 0x9#4,
     word4 0x0#4 (disp.extractLsb' 8 4) (disp.extractLsb' 4 4) (disp.extractLsb' 0 4)]
  | .bsetB n imm disp =>
    [word4 0x3#4 n imm 0x9#4,
     word4 0x1#4 (disp.extractLsb' 8 4) (disp.extractLsb' 4 4) (disp.extractLsb' 0 4)]
  | .bstB n imm disp =>
    [word4 0x3#4 n imm 0x9#4,
     word4 0x2#4 (disp.extractLsb' 8 4) (disp.extractLsb' 4 4) (disp.extractLsb' 0 4)]
  | .bldB n imm disp =>
    [word4 0x3#4 n imm 0x9#4,
     word4 0x3#4 (disp.extractLsb' 8 4) (disp.extractLsb' 4 4) (disp.extractLsb' 0 4)]
  | .bandB n imm disp =>
    [word4 0x3#4 n imm 0x9#4,
     word4 0x4#4 (disp.extractLsb' 8 4) (disp.extractLsb' 4 4) (disp.extractLsb' 0 4)]
  | .borB n imm disp =>
    [word4 0x3#4 n imm 0x9#4,
     word4 0x5#4 (disp.extractLsb' 8 4) (disp.extractLsb' 4 4) (disp.extractLsb' 0 4)]
  | .bxorB n imm disp =>
    [word4 0x3#4 n imm 0x9#4,
     word4 0x6#4 (disp.extractLsb' 8 4) (disp.extractLsb' 4 4) (disp.extractLsb' 0 4)]
  | .bldnotB n imm disp =>
    [word4 0x3#4 n imm 0x9#4,
     word4 0xB#4 (disp.extractLsb' 8 4) (disp.extractLsb' 4 4) (disp.extractLsb' 0 4)]
  | .bandnotB n imm disp =>
    [word4 0x3#4 n imm 0x9#4,
     word4 0xC#4 (disp.extractLsb' 8 4) (disp.extractLsb' 4 4) (disp.extractLsb' 0 4)]
  | .bornotB n imm disp =>
    [word4 0x3#4 n imm 0x9#4,
     word4 0xD#4 (disp.extractLsb' 8 4) (disp.extractLsb' 4 4) (disp.extractLsb' 0 4)]
  | .cmpbeq n m disp =>
    [word4 0x3#4 n m 0x0#4,
     word4 0x8#4 0x9#4 (disp.extractLsb' 4 4) (disp.extractLsb' 0 4)]
  | .cmpbne n m disp =>
    [word4 0x3#4 n m 0x0#4,
     word4 0x8#4 0xB#4 (disp.extractLsb' 4 4) (disp.extractLsb' 0 4)]
  | .cmpbge n m disp =>
    [word4 0x3#4 n m 0x3#4,
     word4 0x8#4 0x9#4 (disp.extractLsb' 4 4) (disp.extractLsb' 0 4)]
  | .cmpblt n m disp =>
    [word4 0x3#4 n m 0x3#4,
     word4 0x8#4 0xB#4 (disp.extractLsb' 4 4) (disp.extractLsb' 0 4)]
  | .cmpbgt n m disp =>
    [word4 0x3#4 n m 0x7#4,
     word4 0x8#4 0x9#4 (disp.extractLsb' 4 4) (disp.extractLsb' 0 4)]
  | .cmpble n m disp =>
    [word4 0x3#4 n m 0x7#4,
     word4 0x8#4 0xB#4 (disp.extractLsb' 4 4) (disp.extractLsb' 0 4)]
  | .shadImm n m imm =>
    [word4 0xE#4 m (imm.extractLsb' 4 4) (imm.extractLsb' 0 4),
     word4 0x4#4 n m 0xC#4]
  | .shldImm n m imm =>
    [word4 0xE#4 m (imm.extractLsb' 4 4) (imm.extractLsb' 0 4),
     word4 0x4#4 n m 0xD#4]

/-- The bytes of an instruction in rising address order (R157). -/
def encodeBytes (e : Endian) (i : Instr) : List Byte := (encode i).flatMap (bytesOfWord e)

/-- The instruction read from the bits `w`, the first word in bits 15..0, the second in bits 31..16; every
bit from `nbits` up is 0. The words are laid out in the byte order of `Config.standard`. -/
def decodeTableWord (nbits w : Nat) : Option Instr :=
  let v := w % 2 ^ nbits
  let bytes := bytesOfWord Config.standard.endian (BitVec.ofNat 16 v)
    ++ bytesOfWord Config.standard.endian (BitVec.ofNat 16 (v / 2 ^ 16))
  match decodeBytes Config.standard.endian bytes with
  | .ok i => some i
  | .error _ => none

end Sys2Proof
end

