-- ==== Sys2Proof/Machine/State.lean ====
section
/-! DEFINITION. The machine's state as plain data (10_state.md R30, R74 to R76), the reasons a step can
stop, and the state right after reset (R80, 70_reset_and_hazards.md R480). -/

namespace Sys2Proof.Machine

/-- `SLOT` when a delay slot is pending: the target of the delayed branch and, after `RTE`, the `SR.MD` in
force before it, which the fetch of the slot's instruction is checked with (10_state.md R74). -/
structure Slot where
  target : Word
  rteMd : Option Bool
  deriving DecidableEq, Repr

/-- Everything the spec gives the machine (R30), the parameters of a run (R7), and one field of the model's
own, `freeCtr`, which numbers the free values drawn (log 8). -/
structure State where
  /-- `R0_A..R7_A` (R32). -/
  bankA : Vector Word 8
  /-- `R0_B..R7_B` (R32). -/
  bankB : Vector Word 8
  /-- `R8..R15` (R32). -/
  rh : Vector Word 8
  /-- The address of the instruction to execute (R37). -/
  pc : Word
  /-- The status register (R42). -/
  sr : Word
  /-- The global base register (R54). -/
  gbr : Word
  /-- The vector base register (R55). -/
  vbr : Word
  /-- The saved status register (R56). -/
  ssr : Word
  /-- The saved program counter (R57). -/
  spc : Word
  /-- The saved general register 15 (R58). -/
  sgr : Word
  /-- The debug base register, which no instruction reads or writes (R59). -/
  dbr : Word
  /-- The high half of the accumulator (R60). -/
  mach : Word
  /-- The low half of the accumulator (R60). -/
  macl : Word
  /-- The procedure register (R61). -/
  pr : Word
  /-- The FPU control register (R62). -/
  fpscr : Word
  /-- The FPU transfer register (R67). -/
  fpul : Word
  /-- The FPU bank that FR0..FR15 name when FPSCR.FR = 0 (R72). -/
  fb0 : Vector Word 16
  /-- The FPU bank that FR0..FR15 name when FPSCR.FR = 1 (R72). -/
  fb1 : Vector Word 16
  /-- Memory, by byte location, in the canonical form of `Memory.wf` (R73). -/
  mem : List Host.Cell
  /-- The pending delay slot, if any (R74). -/
  slot : Option Slot
  /-- What `IntSource` presents at the coming step boundaries, one entry each; after the last, nothing
  any more (R75, 60_exceptions.md R450; log 29). -/
  irqs : List (Option (BitVec 4))
  /-- `ASLEEP` (R76). -/
  asleep : Bool
  /-- The locations this agent has stored to since the run began, rising (20_memory.md R118). -/
  stored : List Nat
  /-- The accesses that the handler of region 7 has answered in the run, newest first: what it has seen
  (20_memory.md R89, R99; log 45). -/
  special : List SpecialAccess
  /-- The model's own: how many free values have been drawn (log 8). -/
  freeCtr : Nat
  /-- The parameters, which no step changes (R7; log 1). -/
  cfg : Config
  deriving DecidableEq, Repr

/-- Why the machine stops with a fault. -/
inductive Fault where
  /-- `SLEEP` with no request ever to come: the agent never steps again (93_implementation_defined.md U19).
  Raised by the step of a sleeping agent. Safe (log 30). -/
  | asleepForever
  deriving DecidableEq, Repr

/-- Why the model has no step. -/
inductive Refusal where
  /-- An instruction with no meaning yet. Raised by no arm. Safe. -/
  | notModelled (mnemonic : String)
  /-- An access or a fetch in region 7 without a handler (20_memory.md R89). Safe (log 21). -/
  | specialRegion
  /-- A fetch of a word this agent has stored to, under `IFETCH_COHERENT = refuse` (R118). Safe (log 11). -/
  | storedInstruction
  /-- A synchronous event while SR.BL = 1 (60_exceptions.md R457). Safe (log 22). -/
  | eventWhileBlocked
  /-- An event raised by the delay-slot instruction of `RTE` (R447). Safe (log 23). -/
  | eventInRteSlot
  /-- `XPFX0` (48_ext_superops_32bit.md R412). Safe (log 24). -/
  | prefixXpfx0
  /-- A pair instruction with FPSCR.PR = 1 and an odd register field (47_groupF_fpu.md R368 (a)). Safe (log 18). -/
  | oddPairField
  /-- `FMAC`, `FLDI0`, `FLDI1` with FPSCR.PR = 1 (R368 (b)). Safe (log 18). -/
  | singleOnlyForm
  /-- `FCNVSD`, `FCNVDS` with FPSCR.PR = 0 (R368 (c)). Safe (log 18). -/
  | doubleOnlyForm
  /-- A rounding operation with FPSCR.RM = 2 or 3 under FPNUM_IEEE (R366, 93_implementation_defined.md U8).
  Safe (log 15). -/
  | roundingMode
  deriving DecidableEq, Repr

/-- The state in which a run with these reset values and parameters begins, when no image is loaded and `IntSource`
never presents anything (R80, R81, R480); `State.launch` takes both. A register that the record does not give
holds `Config.resetWord` (DESIGN CHOICE, log 5), memory has nothing listed (log 39), and no request is ever
presented (log 29). -/
def State.resetWith (r : ResetValues) (cfg : Config) : State :=
  { bankA := r.bankA, bankB := r.bankB, rh := r.rh
    pc := r.pc, sr := r.sr &&& Config.srMask
    gbr := r.gbr, vbr := r.vbr, ssr := r.ssr, spc := r.spc, sgr := r.sgr, dbr := r.dbr
    mach := r.mach, macl := r.macl, pr := r.pr
    fpscr := r.fpscr &&& Config.fpscrMask, fpul := r.fpul, fb0 := r.fb0, fb1 := r.fb1
    mem := [], slot := none, irqs := [], asleep := false, stored := [], special := [], freeCtr := 0, cfg := cfg }

/-- The machine right after reset, with the SH-4 values of R80 (PRESUMED, log 4), the parameter setting
`Config.standard` (logs 2, 3, 7 to 14, 19 to 21), no image (DESIGN CHOICE, log 39), and the `IntSource` that never
presents anything (DESIGN CHOICE, log 29). -/
def State.reset : State := State.resetWith Config.resetSh4 Config.standard

end Sys2Proof.Machine
end

