-- ==== Sys2Proof/Machine/Flags.lean ====
section
/-! DEFINITION. The fields of SR and FPSCR (10_state.md R42 to R52, R62 to R66) and every flag
computation of the instruction rules. -/

namespace Sys2Proof.Machine

/-- `w` with bit `i` set to `b`. -/
def setBit (w : Word) (i : Nat) (b : Bool) : Word :=
  (w &&& ~~~(1#32 <<< i)) ||| ((BitVec.ofBool b).setWidth 32 <<< i)

/-- A truth value as a 32-bit number, 0 or 1 (R182). -/
def wordOfBool (b : Bool) : Word := (BitVec.ofBool b).setWidth 32

/-- `SR.T`, bit 0 (R43). -/
def State.t (s : State) : Bool := s.sr.getLsbD 0

/-- `SR.S`, bit 1 (R44). -/
def State.satS (s : State) : Bool := s.sr.getLsbD 1

/-- `SR.IM`, bits 7:4 (R45). -/
def State.im (s : State) : BitVec 4 := s.sr.extractLsb' 4 4

/-- `SR.Q`, bit 8 (R46). -/
def State.q (s : State) : Bool := s.sr.getLsbD 8

/-- `SR.M`, bit 9 (R47). -/
def State.m (s : State) : Bool := s.sr.getLsbD 9

/-- `SR.FD`, bit 15 (R48). -/
def State.fd (s : State) : Bool := s.sr.getLsbD 15

/-- `SR.BL`, bit 28 (R49). -/
def State.bl (s : State) : Bool := s.sr.getLsbD 28

/-- `SR.RB`, bit 29 (R50). -/
def State.rb (s : State) : Bool := s.sr.getLsbD 29

/-- `SR.MD`, bit 30: true in supervisor mode (R51). -/
def State.md (s : State) : Bool := s.sr.getLsbD 30

/-- Write T (R43). -/
def State.setT (s : State) (b : Bool) : State := { s with sr := setBit s.sr 0 b }

/-- Write S (R44). -/
def State.setS (s : State) (b : Bool) : State := { s with sr := setBit s.sr 1 b }

/-- Write Q (R46). -/
def State.setQ (s : State) (b : Bool) : State := { s with sr := setBit s.sr 8 b }

/-- Write M (R47). -/
def State.setM (s : State) (b : Bool) : State := { s with sr := setBit s.sr 9 b }

/-- A whole-SR write: the unlisted bits read as 0 (R52). -/
def State.setSr (s : State) (v : Word) : State := { s with sr := v &&& Config.srMask }

/-- A write to FPSCR: the unlisted bits read as 0 (R66). -/
def State.setFpscr (s : State) (v : Word) : State := { s with fpscr := v &&& Config.fpscrMask }

/-- `FPSCR.RM`, bits 1:0 (R63). -/
def State.rm (s : State) : BitVec 2 := s.fpscr.extractLsb' 0 2

/-- `FPSCR.DN`, bit 18 (R64). -/
def State.dn (s : State) : Bool := s.fpscr.getLsbD 18

/-- `FPSCR.PR`, bit 19: true for double precision (R65). -/
def State.double (s : State) : Bool := s.fpscr.getLsbD 19

/-- `FPSCR.SZ`, bit 20: true for pair transfers (R71). -/
def State.sz (s : State) : Bool := s.fpscr.getLsbD 20

/-- `FPSCR.FR`, bit 21 (R72). -/
def State.frBank (s : State) : Bool := s.fpscr.getLsbD 21

/-- The sum `a + b + c` as an unbounded integer, from which `ADDC` takes its result and carry (R233). -/
def addWithCarry (a b : Word) (c : Bool) : Nat := a.toNat + b.toNat + c.toNat

/-- The carry of `ADDC`: the sum is at least 2^32 (R233). -/
def carryOf (a b : Word) (c : Bool) : Bool := decide (2 ^ 32 ≤ addWithCarry a b c)

/-- The difference `a - b - c` as an unbounded integer, for `SUBC` and `NEGC` (R229, R316). -/
def subWithBorrow (a b : Word) (c : Bool) : Int := (a.toNat : Int) - b.toNat - c.toNat

/-- The borrow of `SUBC` and `NEGC`: the difference is negative (R229, R316). -/
def borrowOf (a b : Word) (c : Bool) : Bool := decide (subWithBorrow a b c < 0)

/-- The overflow of `ADDV`: operands of one sign, a sum of the other (R234). -/
def addOverflows (a b : Word) : Bool := a.msb == b.msb && (a + b).msb != a.msb

/-- The overflow of `SUBV`: operands of two signs, a difference whose sign is not the minuend's (R230). -/
def subOverflows (a b : Word) : Bool := a.msb != b.msb && (a - b).msb != a.msb

/-- `CMPSTR`'s T: some byte lane holds equal bytes (R214). -/
def someByteEqual (a b : Word) : Bool :=
  let x := a ^^^ b
  x.extractLsb' 24 8 == 0 || x.extractLsb' 16 8 == 0 || x.extractLsb' 8 8 == 0 || x.extractLsb' 0 8 == 0

/-- What one `DIV1` writes: the partial remainder, Q and T (R224). -/
structure DivStep where
  r : Word
  q : Bool
  t : Bool
  deriving DecidableEq, Repr

/-- One step of the non-restoring division of `a` by `b` with Q, M and T as before it (R224). -/
def divStep (a b : Word) (q m t : Bool) : DivStep :=
  let qIn := a.msb
  let x := (a <<< 1) ||| wordOfBool t
  let r := if q == m then x - b else x + b
  let c := if q == m then x.ult r else r.ult x
  { r := r, q := (qIn ^^ c) ^^ m, t := (true ^^ qIn) ^^ c }

end Sys2Proof.Machine
end

