-- ==== Sys2Proof/Machine/Operands.lean ====
section
/-! DEFINITION. The register operands and their banks (10_state.md R33 to R36, R68 to R72), and every
addressing mode's effective address (20_memory.md R101 to R108, R120). -/

namespace Sys2Proof.Machine

/-- `BankSel(SR) = B` (R34). -/
def bankIsB (b : BankSelect) (sr : Word) : Bool :=
  match b with
  | .byMd => sr.getLsbD 30
  | .byMdAndRb => sr.getLsbD 30 && sr.getLsbD 29

/-- Bank B is mapped (R34). -/
def State.onB (s : State) : Bool := bankIsB s.cfg.bankSelect s.sr

/-- The low three bits of a register number, its place in a bank (R32, R128). -/
def lowReg (i : Reg) : BankReg := i.extractLsb' 0 3

/-- Read a register of a bank of eight. -/
def bankGet (b : Vector Word 8) (k : BankReg) : Word := b[k.toNat]'k.isLt

/-- Write a register of a bank of eight. -/
def bankSet (b : Vector Word 8) (k : BankReg) (v : Word) : Vector Word 8 := b.set k.toNat v k.isLt

/-- `R[i]` through the bank mapping (R33). -/
def State.r (s : State) (i : Reg) : Word :=
  if i.msb then bankGet s.rh (lowReg i)
  else if s.onB then bankGet s.bankB (lowReg i)
  else bankGet s.bankA (lowReg i)

/-- `R[i] <- v` through the bank mapping (R33). -/
def State.setR (s : State) (i : Reg) (v : Word) : State :=
  { s with
    rh := if i.msb then bankSet s.rh (lowReg i) v else s.rh
    bankB := if !i.msb && s.onB then bankSet s.bankB (lowReg i) v else s.bankB
    bankA := if !i.msb && !s.onB then bankSet s.bankA (lowReg i) v else s.bankA }

/-- `OtherBank[k]`, register k of the bank not mapped (R35). -/
def State.other (s : State) (k : BankReg) : Word :=
  if s.onB then bankGet s.bankA k else bankGet s.bankB k

/-- `OtherBank[k] <- v` (R35). -/
def State.setOther (s : State) (k : BankReg) (v : Word) : State :=
  { s with
    bankA := if s.onB then bankSet s.bankA k v else s.bankA
    bankB := if s.onB then s.bankB else bankSet s.bankB k v }

/-- Read a register of an FPU bank. -/
def fbankGet (b : Vector Word 16) (f : FReg) : Word := b[f.toNat]'f.isLt

/-- Write a register of an FPU bank. -/
def fbankSet (b : Vector Word 16) (f : FReg) (v : Word) : Vector Word 16 := b.set f.toNat v f.isLt

/-- Register `f` of the physical bank FB1 if `one`, else of FB0. -/
def State.fb (s : State) (one : Bool) (f : FReg) : Word :=
  if one then fbankGet s.fb1 f else fbankGet s.fb0 f

/-- Write register `f` of the physical bank FB1 if `one`, else of FB0. -/
def State.setFb (s : State) (one : Bool) (f : FReg) (v : Word) : State :=
  { s with
    fb0 := if one then s.fb0 else fbankSet s.fb0 f v
    fb1 := if one then fbankSet s.fb1 f v else s.fb1 }

/-- `FR[f]`, the bank in front (R68, R72). -/
def State.fr (s : State) (f : FReg) : Word := s.fb s.frBank f

/-- `FR[f] <- v` (R68, R72). -/
def State.setFr (s : State) (f : FReg) (v : Word) : State := s.setFb s.frBank f v

/-- `XF[f]`, the bank at the back (R69, R72). -/
def State.xf (s : State) (f : FReg) : Word := s.fb (!s.frBank) f

/-- `XF[f] <- v` (R69, R72). -/
def State.setXf (s : State) (f : FReg) (v : Word) : State := s.setFb (!s.frBank) f v

/-- The register field names an odd register, so no pair of the front bank (R70, R369). -/
def oddField (f : FReg) : Bool := f.getLsbD 0

/-- The even register of the pair that holds `f`. -/
def evenReg (f : FReg) : FReg := f &&& 0xE#4

/-- The odd register of the pair that holds `f`. -/
def oddReg (f : FReg) : FReg := f ||| 0x1#4

/-- `DR[f/2]` for an even field: the even register holds the high half (R70). -/
def State.dr (s : State) (f : FReg) : BitVec 64 := s.fr (evenReg f) ++ s.fr (oddReg f)

/-- `DR[f/2] <- v` (R70). -/
def State.setDr (s : State) (f : FReg) (v : BitVec 64) : State :=
  (s.setFr (evenReg f) (v.extractLsb' 32 32)).setFr (oddReg f) (v.extractLsb' 0 32)

/-- The physical bank of the pair `P(f)`: the front bank for an even field, the back for an odd one (R369). -/
def State.pairBank (s : State) (f : FReg) : Bool := if oddField f then !s.frBank else s.frBank

/-- The first and second register of the pair `P(f)` (R369). -/
def State.pair (s : State) (f : FReg) : Word × Word :=
  (s.fb (s.pairBank f) (evenReg f), s.fb (s.pairBank f) (oddReg f))

/-- Write the first and second register of the pair `P(f)` (R369). -/
def State.setPair (s : State) (f : FReg) (v : Word × Word) : State :=
  (s.setFb (s.pairBank f) (evenReg f) v.1).setFb (s.pairBank f) (oddReg f) v.2

/-- How far an `FMOV` steps its address register: 4 bytes with SZ = 0, 8 with SZ = 1 (R369). -/
def State.fmovBytes (s : State) : Word := if s.sz then 8 else 4

/-- `@(Rn,disp)`: the 4-bit displacement scaled by the access size (R104). -/
def State.eaDisp (s : State) (n : Reg) (disp : Nibble) (scale : Word) : Word :=
  s.r n + disp.setWidth 32 * scale

/-- `@(R0,Rn)` (R105). -/
def State.eaIndexed (s : State) (n : Reg) : Word := s.r 0 + s.r n

/-- `@(GBR,disp)`: the 8-bit displacement scaled by the access size (R106). -/
def State.eaGbr (s : State) (disp : BitVec 8) (scale : Word) : Word :=
  s.gbr + disp.setWidth 32 * scale

/-- `@(GBR,R0)` (R107). -/
def State.eaGbrIndexed (s : State) : Word := s.gbr + s.r 0

/-- `@(PC,disp)`, the word form (R108). -/
def State.eaPcWord (s : State) (disp : BitVec 8) : Word := s.pc + 4 + disp.setWidth 32 * 2

/-- `@(PC,disp)`, the long form, and `MOVA` (R108). -/
def State.eaPcLong (s : State) (disp : BitVec 8) : Word :=
  ((s.pc + 4) &&& 0xFFFFFFFC) + disp.setWidth 32 * 4

/-- The target of a branch with a signed displacement: `PC + 4 + sext(disp) * 2` (30_encoding.md R132). -/
def State.branchTarget (s : State) {w : Nat} (disp : BitVec w) : Word :=
  s.pc + 4 + disp.signExtend 32 * 2

/-- `sext_8` of the low byte (00_scope.md R11). -/
def sextByte (v : Word) : Word := (v.setWidth 8).signExtend 32

/-- `sext_16` of the low word (R11). -/
def sextHalf (v : Word) : Word := (v.setWidth 16).signExtend 32

/-- `zext_8` of the low byte (R11). -/
def zextByte (v : Word) : Word := (v.setWidth 8).setWidth 32

/-- `zext_16` of the low word (R11). -/
def zextHalf (v : Word) : Word := (v.setWidth 16).setWidth 32

end Sys2Proof.Machine
end

