-- ==== Sys2Proof/Machine/Ops.lean ====
section
/-! DEFINITION. The shared operations: memory and its access rules (20_memory.md), events and trap entry
(60_exceptions.md R431 to R458), the checks before an instruction (R440), the ways an instruction ends
(10_state.md R38, R40), pushes and pops (43_group4_shift_sysreg.md R299), and the accumulator. -/

namespace Sys2Proof.Machine

/-- The outcome of an instruction or of a step. -/
abbrev Out := Host.Outcome State Fault Refusal

/-! ### Memory as a list of cells (R73) -/

/-- The byte at a location. -/
def memGet : List Host.Cell → Nat → Byte
  | [], _ => Config.blankByte
  | (k, v) :: rest, a => if k = a then v else memGet rest a

/-- Store a byte at a location, keeping the canonical form. -/
def memPut : List Host.Cell → Nat → Byte → List Host.Cell
  | [], a, v => if v = Config.blankByte then [] else [(a, v)]
  | (k, w) :: rest, a, v =>
    if a < k then (if v = Config.blankByte then (k, w) :: rest else (a, v) :: (k, w) :: rest)
    else if a = k then (if v = Config.blankByte then rest else (a, v) :: rest)
    else (k, w) :: memPut rest a v

/-- The listed locations are at least `lo`, rise strictly, lie in the address space, and hold no byte that
an unlisted location reads as. -/
def memWfFrom (lo : Nat) : List Host.Cell → Bool
  | [] => true
  | (k, v) :: rest =>
    decide (lo ≤ k) && decide (k < 2 ^ 32) && (v != Config.blankByte) && memWfFrom (k + 1) rest

/-- The canonical form of memory. -/
def Memory.wf (m : List Host.Cell) : Bool := memWfFrom 0 m

/-- Store bytes at rising locations. -/
def memPutAll : List Host.Cell → Nat → List Byte → List Host.Cell
  | m, _, [] => m
  | m, a, v :: rest => memPutAll (memPut m a v) (a + 1) rest

/-- Add a location to a strictly rising list. -/
def insertLoc : List Nat → Nat → List Nat
  | [], a => [a]
  | k :: rest, a => if a < k then a :: k :: rest else if a = k then k :: rest else k :: insertLoc rest a

/-- Add `n` locations from `a` on. -/
def insertLocs : List Nat → Nat → Nat → List Nat
  | l, _, 0 => l
  | l, a, n + 1 => insertLocs (insertLoc l a) (a + 1) n

/-- The list is strictly rising from `lo` on and stays in the address space. -/
def locsFrom (lo : Nat) : List Nat → Bool
  | [] => true
  | k :: rest => decide (lo ≤ k) && decide (k < 2 ^ 32) && locsFrom (k + 1) rest

/-- The width of a data access (R94). -/
inductive Size where
  | b
  | w
  | l
  deriving DecidableEq, Repr

/-- The bytes of a width (R10). -/
def Size.bytes : Size → Nat
  | .b => 1
  | .w => 2
  | .l => 4

/-- The value the bytes at a location hold, zero-extended (R91). -/
def loadAt (e : Endian) (sz : Size) (m : List Host.Cell) (loc : Nat) : Word :=
  match sz with
  | .b => (memGet m loc).setWidth 32
  | .w => (wordOfBytes e (memGet m loc) (memGet m (loc + 1))).setWidth 32
  | .l =>
    match e with
    | .little => memGet m (loc + 3) ++ memGet m (loc + 2) ++ memGet m (loc + 1) ++ memGet m loc
    | .big => memGet m loc ++ memGet m (loc + 1) ++ memGet m (loc + 2) ++ memGet m (loc + 3)

/-- The bytes, in rising location order, of the low bits of a value (R91, R96). -/
def bytesOfValue (e : Endian) (sz : Size) (v : Word) : List Byte :=
  match sz with
  | .b => [v.extractLsb' 0 8]
  | .w => bytesOfWord e (v.extractLsb' 0 16)
  | .l =>
    match e with
    | .little => [v.extractLsb' 0 8, v.extractLsb' 8 8, v.extractLsb' 16 8, v.extractLsb' 24 8]
    | .big => [v.extractLsb' 24 8, v.extractLsb' 16 8, v.extractLsb' 8 8, v.extractLsb' 0 8]

/-! ### Events and their taking -/

/-- The event kinds (R431). An `MmuFault` also says whether it is a translation miss (R446). -/
inductive Event where
  | illegalInstruction
  | slotIllegal
  | fpuDisabled
  | slotFpuDisabled
  | addressError (k : Access) (ea : Word)
  | mmuFault (k : Access) (ea : Word) (miss : Bool)
  | trap (imm : BitVec 8)
  | breakpoint
  | interrupt (level : BitVec 4)
  deriving DecidableEq, Repr

/-- What ends an instruction before its writes: an event, or a case the model has no step for. -/
inductive Stop where
  | event (e : Event)
  | refuse (r : Refusal)
  deriving DecidableEq, Repr

/-- `VecOffset(kind)` (R446). -/
def vecOffset (v : VecOffsets) : Event → Word
  | .illegalInstruction => v.illegalInstruction
  | .slotIllegal => v.slotIllegal
  | .fpuDisabled => v.fpuDisabled
  | .slotFpuDisabled => v.slotFpuDisabled
  | .addressError _ _ => v.addressError
  | .mmuFault _ _ miss => if miss then v.mmuMiss else v.mmuOther
  | .trap _ => v.trap
  | .breakpoint => v.breakpoint
  | .interrupt _ => v.interrupt

/-- The saved PC of an event (R447). -/
def savedPc (s : State) (e : Event) : Word :=
  match e with
  | .interrupt _ => s.pc
  | .trap _ => if s.slot.isSome then s.pc - 2 else s.pc + 2
  | .breakpoint => if s.slot.isSome then s.pc - 2 else s.pc + 2
  | _ => if s.slot.isSome then s.pc - 2 else s.pc

/-- What trap entry leaves in SGR (R58). Under `draw` it is a free value (log 8). -/
def sgrOnTrap (s : State) : Word :=
  match s.cfg.sgrOnTrap with
  | .draw => Config.freeWord s.freeCtr
  | .r15 => s.r 15
  | .unchanged => s.sgr

/-- How many free values trap entry draws (R58; log 8). -/
def sgrDraws (s : State) : Nat :=
  match s.cfg.sgrOnTrap with
  | .draw => 1
  | .r15 => 0
  | .unchanged => 0

/-- Trap entry, for every event kind (R445): PC to SPC, SR to SSR, SGR by `SGR_ON_TRAP`, MD, RB and BL set,
no delay slot, awake, and the PC at `VBR + VecOffset(kind)`. -/
def trapEntry (e : Event) (s : State) : State :=
  { s with
    spc := savedPc s e
    ssr := s.sr
    sgr := sgrOnTrap s
    freeCtr := s.freeCtr + sgrDraws s
    sr := s.sr ||| 0x70000000
    slot := none
    asleep := false
    pc := s.vbr + vecOffset s.cfg.vec e }

/-- The pending delay slot is that of `RTE` (R447, R191). -/
def State.inRteSlot (s : State) : Bool :=
  match s.slot with
  | some t => t.rteMd.isSome
  | none => false

/-- Raise a synchronous event: take it, with none of the instruction's writes made (R432, R445). In the
delay slot of `RTE` (R447) and while SR.BL = 1 (R457) the spec has no step. -/
def raise (e : Event) (s : State) : Out :=
  if s.inRteSlot then .refused .eventInRteSlot
  else if s.bl then .refused .eventWhileBlocked
  else .next (trapEntry e s)

/-- End an instruction that cannot complete. -/
def stopWith (s : State) : Stop → Out
  | .event e => raise e s
  | .refuse r => .refused r

/-- Go on with what an access answers, or end the instruction that `s` began (R432). -/
def orStop {α : Type} (s : State) (x : Except Stop α) (k : α → Out) : Out :=
  match x with
  | .ok a => k a
  | .error e => stopWith s e

/-! ### Checks before an instruction's operation (R160, R440) -/

/-- What a reserved encoding or a privileged instruction in user mode raises (R433, R436). -/
def State.illegal (s : State) : Event :=
  if s.slot.isSome then .slotIllegal else .illegalInstruction

/-- A reserved encoding, in either mode and whatever FD is (30_encoding.md R150, R440 (3)). -/
def reservedEncoding (s : State) : Out := raise s.illegal s

/-- An instruction that is not allowed in a delay slot (R436). -/
def outsideSlot (s : State) (k : Out) : Out :=
  if s.slot.isSome then raise .slotIllegal s else k

/-- A privileged instruction (R461). -/
def privileged (s : State) (k : Out) : Out :=
  if s.md then k else raise s.illegal s

/-- What an FPU instruction raises with SR.FD = 1 (R438). -/
def State.fpuOff (s : State) : Event :=
  if s.slot.isSome then .slotFpuDisabled else .fpuDisabled

/-- An FPU instruction (47_groupF_fpu.md R365). -/
def fpu (s : State) (k : Out) : Out :=
  if s.fd then raise s.fpuOff s else k

/-- With FPSCR.PR = 1 a register field of a pair instruction must be even (R368 (a)). -/
def evenField (s : State) (f : FReg) (k : Out) : Out :=
  if s.double && oddField f then .refused .oddPairField else k

/-- A form that exists only with FPSCR.PR = 0 (R368 (b)). -/
def singleOnly (s : State) (k : Out) : Out :=
  if s.double then .refused .singleOnlyForm else k

/-- A form that exists only with FPSCR.PR = 1 and an even register field (R368 (a), (c)). -/
def doubleOnly (s : State) (f : FReg) (k : Out) : Out :=
  if !s.double then .refused .doubleOnlyForm
  else if oddField f then .refused .oddPairField
  else k

/-- Under FPNUM_IEEE a rounding operation with FPSCR.RM = 2 or 3 has no step (R366, U8; log 15). -/
def rounding (s : State) (k : Out) : Out :=
  if s.cfg.fpnum == .ieee && s.rm.msb then .refused .roundingMode else k

/-! ### The ways an instruction ends -/

/-- The PC after an instruction that does not assign it: the pending target in a delay slot, else the next
word; no delay slot is pending any more (R38, R40). -/
def State.advance (s : State) : State :=
  match s.slot with
  | some t => { s with pc := t.target, slot := none }
  | none => { s with pc := s.pc + 2 }

/-- Complete an instruction whose writes made `s`. -/
def done (s : State) : Out := .next s.advance

/-- `DelayedBranch(t)` (R40). -/
def delayedBranch (s : State) (t : Word) : Out :=
  .next { s with slot := some { target := t, rteMd := none }, pc := s.pc + 2 }

/-- A control transfer without a delay slot (R330). -/
def jumpTo (s : State) (t : Word) : Out := .next { s with pc := t }

/-- `RTE`'s part after the checks: SR from SSR, then a delayed branch to SPC whose slot is fetched in the old
mode (R191, R455). -/
def returnFromException (s : State) : Out :=
  .next { s with
    sr := s.ssr &&& Config.srMask
    slot := some { target := s.spc, rteMd := some s.md }
    pc := s.pc + 2 }

/-! ### Accesses -/

/-- Where an access goes: a location of memory, or an address of region 7 that its handler answers for (R89). -/
inductive Place where
  | mem (loc : Nat)
  | special (ea : Word)
  deriving DecidableEq, Repr

/-- The number that stands for a place among the locations stored to: region 7 is addressed by the full
effective address, above every location of SH4 mode (R89, R118). -/
def Place.loc : Place → Nat
  | .mem loc => loc
  | .special ea => ea.toNat

/-- Where an effective address of region 7 goes: to its handler, if there is one (R89; log 21). -/
def specialPlace (handler : Special) (ea : Word) : Except Stop Place :=
  match handler with
  | .absent => .error (.refuse .specialRegion)
  | .present => .ok (.special ea)

/-- Where a translated access goes, or the event it raises instead (R111, R112; R446). -/
def translated (ea : Word) (k : Access) : Translation → Except Stop Place
  | .frame f => .ok (.mem (f ++ ea.extractLsb' 0 12).toNat)
  | .miss => .error (.event (.mmuFault k ea true))
  | .fault => .error (.event (.mmuFault k ea false))

/-- The place of an effective address (R86 to R89, R112). The region check is made in mode `md`; the translation
is always given SR.MD (R74, R89, R97; log 44). -/
def State.locate (s : State) (k : Access) (md : Bool) (ea : Word) : Except Stop Place :=
  match s.cfg.addrMode with
  | .sh2 => .ok (.mem ea.toNat)
  | .sh4 =>
    let region := ea.extractLsb' 29 3
    if !md && region.msb then .error (.event (.addressError k ea))
    else if region == 7 then specialPlace s.cfg.special ea
    else if region == 4 || region == 5 then .ok (.mem (ea.extractLsb' 0 29).toNat)
    else match s.cfg.mmu with
      | .absent => .ok (.mem (ea.extractLsb' 0 29).toNat)
      | .present => translated ea k (Config.translate (ea.extractLsb' 12 20) k s.md)

/-- The checks of a data access: alignment, then region, then translation (R95, R96, R440 (8)). -/
def State.check (s : State) (k : Access) (sz : Size) (ea : Word) : Except Stop Place :=
  if ea.toNat % sz.bytes = 0 then s.locate k s.md ea else .error (.event (.addressError k ea))

/-- What an access that reads answers, and the state after it. Only a read in region 7 changes the state (R99). -/
structure Loaded (α : Type) where
  value : α
  state : State
  deriving DecidableEq, Repr

/-- The low bits of a value, zero-extended. -/
def Size.cut (sz : Size) (v : Word) : Word :=
  match sz with
  | .b => zextByte v
  | .w => zextHalf v
  | .l => v

/-- The value that a read in byte order `e` finds at a place, zero-extended (R95; region 7: log 45). -/
def State.valueAt (s : State) (e : Endian) (sz : Size) : Place → Word
  | .mem loc => loadAt e sz s.mem loc
  | .special ea => sz.cut (Config.specialAnswer (.read sz.bytes ea :: s.special))

/-- The state once a place has been read: the handler of region 7 has seen it (R99; log 45). -/
def State.noteRead (s : State) (sz : Size) : Place → State
  | .mem _ => s
  | .special ea => { s with special := .read sz.bytes ea :: s.special }

/-- The state once the handler of region 7 has seen a write (R99; log 45). -/
def State.noteWrite (s : State) (sz : Size) (v : Word) : Place → State
  | .mem _ => s
  | .special ea => { s with special := .write sz.bytes ea (sz.cut v) :: s.special }

/-- Read a place in byte order `e`. -/
def State.loadFrom (s : State) (e : Endian) (sz : Size) (p : Place) : Loaded Word :=
  { value := s.valueAt e sz p, state := s.noteRead sz p }

/-- `MemRead(ea, n)` in byte order `e`, zero-extended (R95). -/
def State.readIn (s : State) (e : Endian) (sz : Size) (ea : Word) : Except Stop (Loaded Word) :=
  match s.check .read sz ea with
  | .ok p => .ok (s.loadFrom e sz p)
  | .error x => .error x

/-- A load "relative to registers", in the local byte order (R90). -/
def State.read (s : State) (sz : Size) (ea : Word) : Except Stop (Loaded Word) :=
  s.readIn s.cfg.endianLocal sz ea

/-- An `@(PC,disp)` load, in the machine byte order (R90). -/
def State.readPc (s : State) (sz : Size) (ea : Word) : Except Stop (Loaded Word) :=
  s.readIn s.cfg.endian sz ea

/-- Store the low bits of a value at a location, and note the locations stored to (R91, R118). -/
def State.storeAt (s : State) (sz : Size) (loc : Nat) (v : Word) : State :=
  { s with
    mem := memPutAll s.mem loc (bytesOfValue s.cfg.endianLocal sz v)
    stored := insertLocs s.stored loc sz.bytes }

/-- Store the low bits of a value at a place. Region 7 has no storage: its handler sees the write (R89). -/
def State.storeTo (s : State) (sz : Size) (v : Word) : Place → State
  | .mem loc => s.storeAt sz loc v
  | .special ea => { s.noteWrite sz v (.special ea) with stored := insertLocs s.stored ea.toNat sz.bytes }

/-- `MemWrite(ea, n, v)` (R96). -/
def State.write (s : State) (sz : Size) (ea : Word) (v : Word) : Except Stop State :=
  match s.check .write sz ea with
  | .ok p => .ok (s.storeTo sz v p)
  | .error x => .error x

/-- The two places of an 8-byte access: `ea` a multiple of 8, then each half's checks (R95, R369). -/
def State.checkPair (s : State) (k : Access) (ea : Word) : Except Stop (Place × Place) :=
  if ea.toNat % 8 = 0 then
    match s.check k .l ea with
    | .error x => .error x
    | .ok hi =>
      match s.check k .l (ea + 4) with
      | .error x => .error x
      | .ok lo => .ok (hi, lo)
  else .error (.event (.addressError k ea))

/-- Read two places, one after the other. -/
def State.loadPairFrom (s : State) (hi lo : Place) : Loaded (Word × Word) :=
  let first := s.loadFrom s.cfg.endianLocal .l hi
  let second := first.state.loadFrom s.cfg.endianLocal .l lo
  { value := (first.value, second.value), state := second.state }

/-- A pair load: the long at `ea`, then the long at `ea + 4` (R369). -/
def State.readPair (s : State) (ea : Word) : Except Stop (Loaded (Word × Word)) :=
  match s.checkPair .read ea with
  | .ok (hi, lo) => .ok (s.loadPairFrom hi lo)
  | .error x => .error x

/-- A pair store: the first value at `ea`, then the second at `ea + 4` (R369). -/
def State.writePair (s : State) (ea : Word) (v : Word × Word) : Except Stop State :=
  match s.checkPair .write ea with
  | .ok (hi, lo) => .ok ((s.storeTo .l v.1 hi).storeTo .l v.2 lo)
  | .error x => .error x

/-- The read of a read-modify-write: the write check, then the read check and the read (R440 (8)). -/
def State.readToModify (s : State) (sz : Size) (ea : Word) : Except Stop (Loaded Word) :=
  match s.check .write sz ea with
  | .ok _ => s.read sz ea
  | .error x => .error x

/-- The word that a fetch finds at a place, in the machine byte order, and the state after it (R97). -/
def State.fetchFrom (s : State) : Place → Loaded Half
  | .mem loc => { value := wordOfBytes s.cfg.endian (memGet s.mem loc) (memGet s.mem (loc + 1)), state := s }
  | .special ea =>
    { value := (Config.specialAnswer (.fetch ea :: s.special)).setWidth 16
      state := { s with special := .fetch ea :: s.special } }

/-- `Fetch(a)` with the region check made in mode `md` (R97, R118). -/
def State.fetch (s : State) (md : Bool) (a : Word) : Except Stop (Loaded Half) :=
  if a.getLsbD 0 then .error (.event (.addressError .fetch a))
  else
    match s.locate .fetch md a with
    | .error x => .error x
    | .ok p =>
      if s.cfg.ifetch == .refuse && (s.stored.contains p.loc || s.stored.contains (p.loc + 1)) then
        .error (.refuse .storedInstruction)
      else .ok (s.fetchFrom p)

/-! ### Shapes that many instructions share -/

/-- Load the value at `ea`, extended by `ext`, into `R[n]` (R94). -/
def loadReg (s : State) (sz : Size) (ext : Word → Word) (ea : Word) (n : Reg) : Out :=
  orStop s (s.read sz ea) fun r => done (r.state.setR n (ext r.value))

/-- Post-increment load: the increment first, so a loaded value wins when n = m (R102, R310). -/
def loadInc (s : State) (sz : Size) (ext : Word → Word) (m n : Reg) : Out :=
  orStop s (s.read sz (s.r m)) fun r =>
    done ((r.state.setR m (s.r m + BitVec.ofNat 32 sz.bytes)).setR n (ext r.value))

/-- Store the low bits of a value at `ea` (R96). -/
def storeVal (s : State) (sz : Size) (ea v : Word) : Out :=
  orStop s (s.write sz ea v) fun s1 => done s1

/-- Pre-decrement store: at `R[n] - size`, which `R[n]` then becomes (R103). -/
def pushVal (s : State) (sz : Size) (n : Reg) (v : Word) : Out :=
  let ea := s.r n - BitVec.ofNat 32 sz.bytes
  orStop s (s.write sz ea v) fun s1 => done (s1.setR n ea)

/-- Pop a long at `@Rm+` into a special register; the increment is made under the old bank mapping (R299). -/
def popLong (s : State) (m : Reg) (put : State → Word → State) : Out :=
  orStop s (s.read .l (s.r m)) fun r => done (put (r.state.setR m (s.r m + 4)) r.value)

/-- Read a byte, change it, write it back: `AND.B`, `XOR.B`, `OR.B` (R358 to R360). -/
def modifyByte (s : State) (ea : Word) (f : Byte → Byte) : Out :=
  orStop s (s.readToModify .b ea) fun r =>
    orStop r.state (r.state.write .b ea ((f (r.value.setWidth 8)).setWidth 32)) fun s1 => done s1

/-- An `FMOV` load: one register with SZ = 0, the pair `P(n)` with SZ = 1 (R369). `after` steps the address
register. -/
def fmovLoad (s : State) (ea : Word) (n : FReg) (after : State → State) : Out :=
  if s.sz then orStop s (s.readPair ea) fun r => done (after (r.state.setPair n r.value))
  else orStop s (s.read .l ea) fun r => done (after (r.state.setFr n r.value))

/-- An `FMOV` store: one register with SZ = 0, the pair `P(m)` with SZ = 1 (R369). -/
def fmovStore (s : State) (ea : Word) (m : FReg) (after : State → State) : Out :=
  if s.sz then orStop s (s.writePair ea (s.pair m)) fun s1 => done (after s1)
  else orStop s (s.write .l ea (s.fr m)) fun s1 => done (after s1)

/-- The dynamic shift count of `SHAD` and `SHLD`: left by c for a positive count, else right by 32 - c, with
`right` given 0 for "c = 0" (R289, R290). -/
def dynShift (count : Word) (left : Nat → Word) (right : Nat → Word) (allOut : Word) : Word :=
  let c := (count.extractLsb' 0 5).toNat
  if !count.msb then left c else if c = 0 then allOut else right (32 - c)

/-! ### The accumulator -/

/-- `MACH :: MACL` (R60). -/
def State.mac (s : State) : BitVec 64 := s.mach ++ s.macl

/-- `MACH :: MACL <- v` (R60). -/
def State.setMac (s : State) (v : BitVec 64) : State :=
  { s with mach := v.extractLsb' 32 32, macl := v.extractLsb' 0 32 }

/-- The accumulator after `MAC.L`: the exact sum, saturated to 48 bits with S = 1 (R199; log 10). -/
def macLongResult (sat : Bool) (acc : BitVec 64) (a b : Word) : BitVec 64 :=
  let sum : Int := acc.toInt + a.toInt * b.toInt
  if sat && decide (sum < -(2 ^ 47)) then 0xFFFF800000000000
  else if sat && decide (2 ^ 47 - 1 < sum) then 0x00007FFFFFFFFFFF
  else BitVec.ofInt 64 sum

/-- `MAC.W`'s sum with S = 0, added to all 64 bits (R304). -/
def macWordWide (s : State) (a b : Half) : BitVec 64 := BitVec.ofInt 64 (s.mac.toInt + a.toInt * b.toInt)

/-- `MAC.W`'s exact sum with S = 1, added to MACL alone (R304). -/
def macWordSum (s : State) (a b : Half) : Int := s.macl.toInt + a.toInt * b.toInt

/-- `MAC.W` with S = 1 and a sum outside the 32-bit range (R304). -/
def macWordOverflows (s : State) (a b : Half) : Bool :=
  s.satS && (decide (macWordSum s a b < -(2 ^ 31)) || decide (2 ^ 31 - 1 < macWordSum s a b))

/-- MACL after `MAC.W` (R304). -/
def macWordLow (s : State) (a b : Half) : Word :=
  if !s.satS then (macWordWide s a b).extractLsb' 0 32
  else if macWordSum s a b < -(2 ^ 31) then 0x80000000
  else if 2 ^ 31 - 1 < macWordSum s a b then 0x7FFFFFFF
  else BitVec.ofInt 32 (macWordSum s a b)

/-- MACH after `MAC.W`: a free value after an overflow with S = 1 (R304; log 9). -/
def macWordHigh (s : State) (a b : Half) : Word :=
  if !s.satS then (macWordWide s a b).extractLsb' 32 32
  else if macWordOverflows s a b then Config.freeWord s.freeCtr
  else s.mach

/-- The state after `MAC.W` of the words `a` and `b` (R304). -/
def State.macWord (s : State) (a b : Half) : State :=
  { s with
    mach := macWordHigh s a b
    macl := macWordLow s a b
    freeCtr := if macWordOverflows s a b then s.freeCtr + 1 else s.freeCtr }

end Sys2Proof.Machine
end

