-- ==== Sys2Proof/Machine/Group3.lean ====
section
/-! DEFINITION. Group `3---`: compares, DIV1, 32-bit multiplies, add and subtract
(42_group3_compare_arith.md R220 to R234). -/

namespace Sys2Proof.Machine

/-- `3nm0` CMPEQ Rm,Rn (R220). -/
def execCmpeqR (n : Reg) (m : Reg) (s : State) : Out := done (s.setT (s.r n == s.r m))

/-- `3nm2` CMPHS Rm,Rn (R221). -/
def execCmphs (n : Reg) (m : Reg) (s : State) : Out := done (s.setT ((s.r m).ule (s.r n)))

/-- `3nm3` CMPGE Rm,Rn (R222). -/
def execCmpge (n : Reg) (m : Reg) (s : State) : Out := done (s.setT ((s.r m).sle (s.r n)))

/-- `3nm6` CMPHI Rm,Rn (R226). -/
def execCmphi (n : Reg) (m : Reg) (s : State) : Out := done (s.setT ((s.r m).ult (s.r n)))

/-- `3nm7` CMPGT Rm,Rn (R227). -/
def execCmpgt (n : Reg) (m : Reg) (s : State) : Out := done (s.setT ((s.r m).slt (s.r n)))

/-- `3nm4` DIV1 Rm,Rn (R224). -/
def execDiv1 (n : Reg) (m : Reg) (s : State) : Out :=
  let d := divStep (s.r n) (s.r m) s.q s.m s.t
  done (((s.setR n d.r).setQ d.q).setT d.t)

/-- `3nm5` DMULU.L Rm,Rn (R225). -/
def execDmuluL (n : Reg) (m : Reg) (s : State) : Out :=
  done (s.setMac ((s.r n).setWidth 64 * (s.r m).setWidth 64))

/-- `3nmD` DMULS.L Rm,Rn (R232). -/
def execDmulsL (n : Reg) (m : Reg) (s : State) : Out :=
  done (s.setMac ((s.r n).signExtend 64 * (s.r m).signExtend 64))

/-- `3nm8` SUB Rm,Rn (R228). -/
def execSubR (n : Reg) (m : Reg) (s : State) : Out := done (s.setR n (s.r n - s.r m))

/-- `3nmC` ADD Rm,Rn (R231). -/
def execAddR (n : Reg) (m : Reg) (s : State) : Out := done (s.setR n (s.r n + s.r m))

/-- `3nmA` SUBC Rm,Rn (R229). -/
def execSubc (n : Reg) (m : Reg) (s : State) : Out :=
  done ((s.setR n (BitVec.ofInt 32 (subWithBorrow (s.r n) (s.r m) s.t))).setT
    (borrowOf (s.r n) (s.r m) s.t))

/-- `3nmB` SUBV Rm,Rn (R230). -/
def execSubv (n : Reg) (m : Reg) (s : State) : Out :=
  done ((s.setR n (s.r n - s.r m)).setT (subOverflows (s.r n) (s.r m)))

/-- `3nmE` ADDC Rm,Rn (R233). -/
def execAddc (n : Reg) (m : Reg) (s : State) : Out :=
  done ((s.setR n (BitVec.ofNat 32 (addWithCarry (s.r n) (s.r m) s.t))).setT
    (carryOf (s.r n) (s.r m) s.t))

/-- `3nmF` ADDV Rm,Rn (R234). -/
def execAddv (n : Reg) (m : Reg) (s : State) : Out :=
  done ((s.setR n (s.r n + s.r m)).setT (addOverflows (s.r n) (s.r m)))

end Sys2Proof.Machine
end

