-- ==== Sys2Proof/Machine/Group4.lean ====
section
/-! DEFINITION. Group `4---`: shifts, rotates, system-register loads and stores, JSR, JMP, TAS.B, MAC.W
(43_group4_shift_sysreg.md R240 to R304). -/

namespace Sys2Proof.Machine

/-- `4n00` SHLL Rn (R240). -/
def execShll (n : Reg) (s : State) : Out := done ((s.setR n (s.r n <<< 1)).setT (s.r n).msb)

/-- `4n10` DT Rn (R241). -/
def execDt (n : Reg) (s : State) : Out := done ((s.setR n (s.r n - 1)).setT (s.r n - 1 == 0))

/-- `4n20` SHAL Rn (R242). -/
def execShal (n : Reg) (s : State) : Out := done ((s.setR n (s.r n <<< 1)).setT (s.r n).msb)

/-- `4n01` SHLR Rn (R243). -/
def execShlr (n : Reg) (s : State) : Out := done ((s.setR n (s.r n >>> 1)).setT ((s.r n).getLsbD 0))

/-- `4n11` CMPPZ Rn (R244). -/
def execCmppz (n : Reg) (s : State) : Out := done (s.setT (BitVec.sle 0 (s.r n)))

/-- `4n21` SHAR Rn (R245). -/
def execShar (n : Reg) (s : State) : Out :=
  done ((s.setR n ((s.r n).sshiftRight 1)).setT ((s.r n).getLsbD 0))

/-- `4n02` STS.L MACH,@-Rn (R246). -/
def execStslMach (n : Reg) (s : State) : Out := pushVal s .l n s.mach

/-- `4n12` STS.L MACL,@-Rn (R247). -/
def execStslMacl (n : Reg) (s : State) : Out := pushVal s .l n s.macl

/-- `4n22` STS.L PR,@-Rn (R248). -/
def execStslPr (n : Reg) (s : State) : Out := pushVal s .l n s.pr

/-- `4n32` STC.L SGR,@-Rn (R249). -/
def execStclSgr (n : Reg) (s : State) : Out := privileged s (pushVal s .l n s.sgr)

/-- `4n52` STS.L FPUL,@-Rn (R250). -/
def execStslFpul (n : Reg) (s : State) : Out := fpu s (pushVal s .l n s.fpul)

/-- `4n62` STS.L FPSCR,@-Rn (R251). -/
def execStslFpscr (n : Reg) (s : State) : Out := fpu s (pushVal s .l n s.fpscr)

/-- `4n03` STC.L SR,@-Rn (R252). -/
def execStclSr (n : Reg) (s : State) : Out := privileged s (pushVal s .l n s.sr)

/-- `4n13` STC.L GBR,@-Rn (R253). -/
def execStclGbr (n : Reg) (s : State) : Out := pushVal s .l n s.gbr

/-- `4n23` STC.L VBR,@-Rn (R254). -/
def execStclVbr (n : Reg) (s : State) : Out := privileged s (pushVal s .l n s.vbr)

/-- `4n33` STC.L SSR,@-Rn (R255). (log 33) -/
def execStclSsr (n : Reg) (s : State) : Out := privileged s (pushVal s .l n s.ssr)

/-- `4n43` STC.L SPC,@-Rn (R256). (log 33) -/
def execStclSpc (n : Reg) (s : State) : Out := privileged s (pushVal s .l n s.spc)

/-- `4nM3` STC.L Rm_B,@-Rn (R257). -/
def execStclBank (n : Reg) (mb : BankReg) (s : State) : Out :=
  privileged s (pushVal s .l n (s.other mb))

/-- `4n04` ROTL Rn (R258). -/
def execRotl (n : Reg) (s : State) : Out :=
  done ((s.setR n ((s.r n).rotateLeft 1)).setT (s.r n).msb)

/-- `4n24` ROTCL Rn (R259). -/
def execRotcl (n : Reg) (s : State) : Out :=
  done ((s.setR n ((s.r n <<< 1) ||| wordOfBool s.t)).setT (s.r n).msb)

/-- `4n05` ROTR Rn (R260). -/
def execRotr (n : Reg) (s : State) : Out :=
  done ((s.setR n ((s.r n).rotateRight 1)).setT ((s.r n).getLsbD 0))

/-- `4n15` CMPPL Rn (R261). -/
def execCmppl (n : Reg) (s : State) : Out := done (s.setT (BitVec.slt 0 (s.r n)))

/-- `4n25` ROTCR Rn (R262). -/
def execRotcr (n : Reg) (s : State) : Out :=
  done ((s.setR n ((s.r n >>> 1) ||| (wordOfBool s.t <<< 31))).setT ((s.r n).getLsbD 0))

/-- `4m06` LDS.L @Rm+,MACH (R263). -/
def execLdslMach (m : Reg) (s : State) : Out := popLong s m fun t v => { t with mach := v }

/-- `4m16` LDS.L @Rm+,MACL (R264). -/
def execLdslMacl (m : Reg) (s : State) : Out := popLong s m fun t v => { t with macl := v }

/-- `4m26` LDS.L @Rm+,PR (R265). -/
def execLdslPr (m : Reg) (s : State) : Out := popLong s m fun t v => { t with pr := v }

/-- `4m36` LDC.L @Rm+,SGR (R266). -/
def execLdclSgr (m : Reg) (s : State) : Out :=
  privileged s (popLong s m fun t v => { t with sgr := v })

/-- `4m56` LDS.L @Rm+,FPUL (R267). -/
def execLdslFpul (m : Reg) (s : State) : Out := fpu s (popLong s m fun t v => { t with fpul := v })

/-- `4m66` LDS.L @Rm+,FPSCR (R268). -/
def execLdslFpscr (m : Reg) (s : State) : Out := fpu s (popLong s m fun t v => t.setFpscr v)

/-- `4m07` LDC.L @Rm+,SR (R269). -/
def execLdclSr (m : Reg) (s : State) : Out := privileged s (popLong s m fun t v => t.setSr v)

/-- `4m17` LDC.L @Rm+,GBR (R270). -/
def execLdclGbr (m : Reg) (s : State) : Out := popLong s m fun t v => { t with gbr := v }

/-- `4m27` LDC.L @Rm+,VBR (R271). -/
def execLdclVbr (m : Reg) (s : State) : Out :=
  privileged s (popLong s m fun t v => { t with vbr := v })

/-- `4m37` LDC.L @Rm+,SSR (R272). -/
def execLdclSsr (m : Reg) (s : State) : Out :=
  privileged s (popLong s m fun t v => { t with ssr := v })

/-- `4m47` LDC.L @Rm+,SPC (R273). -/
def execLdclSpc (m : Reg) (s : State) : Out :=
  privileged s (popLong s m fun t v => { t with spc := v })

/-- `4mN7` LDC.L @Rm+,Rn_B (R274). -/
def execLdclBank (m : Reg) (nb : BankReg) (s : State) : Out :=
  privileged s (popLong s m fun t v => t.setOther nb v)

/-- `4n08` SHLL2 Rn (R275). -/
def execShll2 (n : Reg) (s : State) : Out := done (s.setR n (s.r n <<< 2))

/-- `4n18` SHLL8 Rn (R276). -/
def execShll8 (n : Reg) (s : State) : Out := done (s.setR n (s.r n <<< 8))

/-- `4n28` SHLL16 Rn (R277). -/
def execShll16 (n : Reg) (s : State) : Out := done (s.setR n (s.r n <<< 16))

/-- `4n09` SHLR2 Rn (R278). -/
def execShlr2 (n : Reg) (s : State) : Out := done (s.setR n (s.r n >>> 2))

/-- `4n19` SHLR8 Rn (R279). -/
def execShlr8 (n : Reg) (s : State) : Out := done (s.setR n (s.r n >>> 8))

/-- `4n29` SHLR16 Rn (R280). -/
def execShlr16 (n : Reg) (s : State) : Out := done (s.setR n (s.r n >>> 16))

/-- `4m0A` LDS Rm,MACH (R281). -/
def execLdsMach (m : Reg) (s : State) : Out := done { s with mach := s.r m }

/-- `4m1A` LDS Rm,MACL (R282). -/
def execLdsMacl (m : Reg) (s : State) : Out := done { s with macl := s.r m }

/-- `4m2A` LDS Rm,PR (R283). -/
def execLdsPr (m : Reg) (s : State) : Out := done { s with pr := s.r m }

/-- `4m3A` LDC Rm,SGR (R284). -/
def execLdcSgr (m : Reg) (s : State) : Out := privileged s (done { s with sgr := s.r m })

/-- `4m5A` LDS Rm,FPUL (R285). -/
def execLdsFpul (m : Reg) (s : State) : Out := fpu s (done { s with fpul := s.r m })

/-- `4m6A` LDS Rm,FPSCR (R286). -/
def execLdsFpscr (m : Reg) (s : State) : Out := fpu s (done (s.setFpscr (s.r m)))

/-- `4m0E` LDC Rm,SR (R293). -/
def execLdcSr (m : Reg) (s : State) : Out := privileged s (done (s.setSr (s.r m)))

/-- `4m1E` LDC Rm,GBR (R294). -/
def execLdcGbr (m : Reg) (s : State) : Out := done { s with gbr := s.r m }

/-- `4m2E` LDC Rm,VBR (R295). -/
def execLdcVbr (m : Reg) (s : State) : Out := privileged s (done { s with vbr := s.r m })

/-- `4m3E` LDC Rm,SSR (R296). -/
def execLdcSsr (m : Reg) (s : State) : Out := privileged s (done { s with ssr := s.r m })

/-- `4m4E` LDC Rm,SPC (R297). -/
def execLdcSpc (m : Reg) (s : State) : Out := privileged s (done { s with spc := s.r m })

/-- `4mNE` LDC Rm,Rn_B (R298). -/
def execLdcBank (m : Reg) (nb : BankReg) (s : State) : Out :=
  privileged s (done (s.setOther nb (s.r m)))

/-- `4m0B` JSR Rm (R287). -/
def execJsr (m : Reg) (s : State) : Out :=
  outsideSlot s (delayedBranch { s with pr := s.pc + 4 } (s.r m))

/-- `4m1B` TAS.B Rm (R292). The write check comes first (log 37). -/
def execTasB (m : Reg) (s : State) : Out :=
  let ea := s.r m
  orStop s (s.readToModify .b ea) fun r =>
    orStop r.state (r.state.write .b ea (r.value ||| 0x80)) fun s1 => done (s1.setT (r.value == 0))

/-- `4m2B` JMP Rm (R288). -/
def execJmp (m : Reg) (s : State) : Out := outsideSlot s (delayedBranch s (s.r m))

/-- `4nmC` SHAD Rm,Rn (R289). -/
def execShad (n : Reg) (m : Reg) (s : State) : Out :=
  done (s.setR n (dynShift (s.r m) (s.r n <<< ·) ((s.r n).sshiftRight ·)
    ((s.r n).sshiftRight 31)))

/-- `4nmD` SHLD Rm,Rn (R290). -/
def execShld (n : Reg) (m : Reg) (s : State) : Out :=
  done (s.setR n (dynShift (s.r m) (s.r n <<< ·) (s.r n >>> ·) 0))

/-- `4nmF` MAC.W Rm,Rn (R304). A stop writes nothing (log 9). -/
def execMacW (n : Reg) (m : Reg) (s : State) : Out :=
  orStop s (s.read .w (s.r n)) fun a =>
    let s1 := a.state.setR n (s.r n + 2)
    orStop a.state (s1.read .w (s1.r m)) fun b =>
      done ((b.state.setR m (s1.r m + 2)).macWord (a.value.setWidth 16) (b.value.setWidth 16))

end Sys2Proof.Machine
end

