-- ==== Sys2Proof/Machine/Group89AB.lean ====
section
/-! DEFINITION. Groups `8---` to `B---`: displacement moves, CMPEQ #imm, branches
(45_group8_9_A_B_disp_branch.md R325 to R337). -/

namespace Sys2Proof.Machine

/-- `80nd` MOV.B R0,@(Rn,disp) (R325). -/
def execMovBStoreDisp (n : Reg) (disp : Nibble) (s : State) : Out :=
  storeVal s .b (s.eaDisp n disp 1) (s.r 0)

/-- `81nd` MOV.W R0,@(Rn,disp) (R326). -/
def execMovWStoreDisp (n : Reg) (disp : Nibble) (s : State) : Out :=
  storeVal s .w (s.eaDisp n disp 2) (s.r 0)

/-- `84md` MOV.B @(Rm,disp),R0 (R327). -/
def execMovBLoadDisp (m : Reg) (disp : Nibble) (s : State) : Out :=
  loadReg s .b sextByte (s.eaDisp m disp 1) 0

/-- `85md` MOV.W @(Rm,disp),R0 (R328). -/
def execMovWLoadDisp (m : Reg) (disp : Nibble) (s : State) : Out :=
  loadReg s .w sextHalf (s.eaDisp m disp 2) 0

/-- `88ii` CMPEQ #imm,R0 (R329). -/
def execCmpeqI (imm : BitVec 8) (s : State) : Out := done (s.setT (s.r 0 == imm.signExtend 32))

/-- `89dd` BT label (R330). -/
def execBt (disp : BitVec 8) (s : State) : Out :=
  outsideSlot s (jumpTo s (if s.t then s.branchTarget disp else s.pc + 2))

/-- `8Bdd` BF label (R331). -/
def execBf (disp : BitVec 8) (s : State) : Out :=
  outsideSlot s (jumpTo s (if s.t then s.pc + 2 else s.branchTarget disp))

/-- `8Ddd` BTS label (R332). -/
def execBts (disp : BitVec 8) (s : State) : Out :=
  outsideSlot s (delayedBranch s (if s.t then s.branchTarget disp else s.pc + 4))

/-- `8Fdd` BFS label (R333). -/
def execBfs (disp : BitVec 8) (s : State) : Out :=
  outsideSlot s (delayedBranch s (if s.t then s.pc + 4 else s.branchTarget disp))

/-- `9ndd` MOV.W @(PC,disp),Rn (R335). -/
def execMovWLoadPc (n : Reg) (disp : BitVec 8) (s : State) : Out :=
  outsideSlot s (orStop s (s.readPc .w (s.eaPcWord disp)) fun r =>
    done (r.state.setR n (sextHalf r.value)))

/-- `Addd` BRA label (R336). -/
def execBra (disp : BitVec 12) (s : State) : Out :=
  outsideSlot s (delayedBranch s (s.branchTarget disp))

/-- `Bddd` BSR label (R337). -/
def execBsr (disp : BitVec 12) (s : State) : Out :=
  outsideSlot s (delayedBranch { s with pr := s.pc + 4 } (s.branchTarget disp))

end Sys2Proof.Machine
end

