-- ==== Sys2Proof/Machine/GroupCDE.lean ====
section
/-! DEFINITION. Groups `C---`, `D---`, `E---`: GBR moves, TRAPA, MOVA, immediate and byte logic
(46_groupC_D_E_gbr_imm.md R345 to R362). -/

namespace Sys2Proof.Machine

/-- `C0dd` MOV.B R0,@(GBR,disp) (R345). -/
def execMovBStoreGbr (disp : BitVec 8) (s : State) : Out := storeVal s .b (s.eaGbr disp 1) (s.r 0)

/-- `C1dd` MOV.W R0,@(GBR,disp) (R346). -/
def execMovWStoreGbr (disp : BitVec 8) (s : State) : Out := storeVal s .w (s.eaGbr disp 2) (s.r 0)

/-- `C2dd` MOV.L R0,@(GBR,disp) (R347). -/
def execMovLStoreGbr (disp : BitVec 8) (s : State) : Out := storeVal s .l (s.eaGbr disp 4) (s.r 0)

/-- `C3jj` TRAPA #imm (R348). -/
def execTrapa (imm : BitVec 8) (s : State) : Out := outsideSlot s (raise (.trap imm) s)

/-- `C4dd` MOV.B @(GBR,disp),R0 (R349). -/
def execMovBLoadGbr (disp : BitVec 8) (s : State) : Out := loadReg s .b sextByte (s.eaGbr disp 1) 0

/-- `C5dd` MOV.W @(GBR,disp),R0 (R350). -/
def execMovWLoadGbr (disp : BitVec 8) (s : State) : Out := loadReg s .w sextHalf (s.eaGbr disp 2) 0

/-- `C6dd` MOV.L @(GBR,disp),R0 (R351). -/
def execMovLLoadGbr (disp : BitVec 8) (s : State) : Out := loadReg s .l id (s.eaGbr disp 4) 0

/-- `C7dd` MOVA @(PC,disp),R0 (R352). -/
def execMova (disp : BitVec 8) (s : State) : Out :=
  outsideSlot s (done (s.setR 0 (s.eaPcLong disp)))

/-- `C8jj` TST #imm,R0 (R353). -/
def execTstI (imm : BitVec 8) (s : State) : Out := done (s.setT (s.r 0 &&& imm.setWidth 32 == 0))

/-- `C9jj` AND #imm,R0 (R354). -/
def execAndI (imm : BitVec 8) (s : State) : Out := done (s.setR 0 (s.r 0 &&& imm.setWidth 32))

/-- `CAjj` XOR #imm,R0 (R355). -/
def execXorI (imm : BitVec 8) (s : State) : Out := done (s.setR 0 (s.r 0 ^^^ imm.setWidth 32))

/-- `CBjj` OR #imm,R0 (R356). -/
def execOrI (imm : BitVec 8) (s : State) : Out := done (s.setR 0 (s.r 0 ||| imm.setWidth 32))

/-- `CCjj` TST.B #imm,@(GBR,R0) (R357). -/
def execTstBGbr (imm : BitVec 8) (s : State) : Out :=
  orStop s (s.read .b s.eaGbrIndexed) fun r =>
    done (r.state.setT (r.value &&& imm.setWidth 32 == 0))

/-- `CDjj` AND.B #imm,@(GBR,R0) (R358). -/
def execAndBGbr (imm : BitVec 8) (s : State) : Out := modifyByte s s.eaGbrIndexed (· &&& imm)

/-- `CEjj` XOR.B #imm,@(GBR,R0) (R359). -/
def execXorBGbr (imm : BitVec 8) (s : State) : Out := modifyByte s s.eaGbrIndexed (· ^^^ imm)

/-- `CFjj` OR.B #imm,@(GBR,R0) (R360). -/
def execOrBGbr (imm : BitVec 8) (s : State) : Out := modifyByte s s.eaGbrIndexed (· ||| imm)

/-- `Dndd` MOV.L @(PC,disp),Rn (R361). -/
def execMovLLoadPc (n : Reg) (disp : BitVec 8) (s : State) : Out :=
  outsideSlot s (orStop s (s.readPc .l (s.eaPcLong disp)) fun r => done (r.state.setR n r.value))

/-- `Enii` MOV #imm,Rn (R362). -/
def execMovI (n : Reg) (imm : BitVec 8) (s : State) : Out := done (s.setR n (imm.signExtend 32))

end Sys2Proof.Machine
end

