-- ==== Sys2Proof/Machine/Extension.lean ====
section
/-! DEFINITION. The VM extensions and the super-ops (48_ext_superops_32bit.md R410 to R416). -/

namespace Sys2Proof.Machine

/-- Two adjacent instructions, as two steps: the second runs if the first leaves the PC at it (R414; log 27). -/
def inSequence (first second : State → Out) (s : State) : Out :=
  match first s with
  | .next s1 => if s1.pc = s.pc + 2 then second s1 else .next s1
  | .fault r => .fault r
  | .refused r => .refused r

/-- `8Aii` MOVI24 #imm24,R0 (R410). The decoder has joined both words; `step` has fetched them (logs 13, 31). -/
def execMovi24 (imm : BitVec 24) (s : State) : Out :=
  outsideSlot s (.next { s.setR 0 (if s.cfg.movi24Signed then imm.signExtend 32 else imm.setWidth 32) with
    pc := s.pc + 4 })

/-- `8Cii` LDSH8 #imm,R0 (R411). (log 12) -/
def execLdsh8 (imm : BitVec 8) (s : State) : Out :=
  done (s.setR 0 ((s.r 0 <<< 8) |||
    (if s.cfg.ldsh8Signed then imm.signExtend 32 else imm.setWidth 32)))

/-- `8Eii` XPFX0 (R412). The spec defines no combination: the model has no step (log 24). -/
def execXpfx0 (_imm : BitVec 8) (_s : State) : Out := .refused .prefixXpfx0

/-- `3nm0-89dd` CMPBEQ Rm,Rn,label (R415). -/
def execCmpbeq (n : Reg) (m : Reg) (disp : BitVec 8) (s : State) : Out :=
  inSequence (execCmpeqR n m) (execBt disp) s

/-- `3nm0-8Bdd` CMPBNE Rm,Rn,label (R415). -/
def execCmpbne (n : Reg) (m : Reg) (disp : BitVec 8) (s : State) : Out :=
  inSequence (execCmpeqR n m) (execBf disp) s

/-- `3nm3-89dd` CMPBGE Rm,Rn,label (R415). -/
def execCmpbge (n : Reg) (m : Reg) (disp : BitVec 8) (s : State) : Out :=
  inSequence (execCmpge n m) (execBt disp) s

/-- `3nm3-8Bdd` CMPBLT Rm,Rn,label (R415). -/
def execCmpblt (n : Reg) (m : Reg) (disp : BitVec 8) (s : State) : Out :=
  inSequence (execCmpge n m) (execBf disp) s

/-- `3nm7-89dd` CMPBGT Rm,Rn,label (R415). -/
def execCmpbgt (n : Reg) (m : Reg) (disp : BitVec 8) (s : State) : Out :=
  inSequence (execCmpgt n m) (execBt disp) s

/-- `3nm7-8Bdd` CMPBLE Rm,Rn,label (R415). -/
def execCmpble (n : Reg) (m : Reg) (disp : BitVec 8) (s : State) : Out :=
  inSequence (execCmpgt n m) (execBf disp) s

/-- `Emii-4nmC` SHAD #imm,Rm,Rn (R416). -/
def execShadImm (n : Reg) (m : Reg) (imm : BitVec 8) (s : State) : Out :=
  inSequence (execMovI m imm) (execShad n m) s

/-- `Emii-4nmD` SHLD #imm,Rm,Rn (R416). -/
def execShldImm (n : Reg) (m : Reg) (imm : BitVec 8) (s : State) : Out :=
  inSequence (execMovI m imm) (execShld n m) s

end Sys2Proof.Machine
end

