-- ==== Sys2Proof/Machine/Group0.lean ====
section
/-! DEFINITION. Group `0---`: system-register reads, register branches, indexed moves, MAC.L
(40_group0_system_indexed.md R160 to R199). -/

namespace Sys2Proof.Machine

/-- `0n02` STC SR,Rn (R161). -/
def execStcSr (n : Reg) (s : State) : Out := privileged s (done (s.setR n s.sr))

/-- `0n12` STC GBR,Rn (R162). -/
def execStcGbr (n : Reg) (s : State) : Out := done (s.setR n s.gbr)

/-- `0n22` STC VBR,Rn (R163). -/
def execStcVbr (n : Reg) (s : State) : Out := privileged s (done (s.setR n s.vbr))

/-- `0n32` STC SSR,Rn (R164). -/
def execStcSsr (n : Reg) (s : State) : Out := privileged s (done (s.setR n s.ssr))

/-- `0n42` STC SPC,Rn (R165). -/
def execStcSpc (n : Reg) (s : State) : Out := privileged s (done (s.setR n s.spc))

/-- `0nM2` STC Rm_B,Rn (R166). -/
def execStcBank (n : Reg) (mb : BankReg) (s : State) : Out :=
  privileged s (done (s.setR n (s.other mb)))

/-- `0m03` BSRF Rm (R167). -/
def execBsrf (m : Reg) (s : State) : Out :=
  outsideSlot s (delayedBranch { s with pr := s.pc + 4 } (s.pc + 4 + s.r m))

/-- `0m23` BSAF Rm (R170). No link (log 43). -/
def execBsaf (m : Reg) (s : State) : Out := outsideSlot s (delayedBranch s (s.pc + 4 + s.r m))

/-- `0n83` PREF @Rn (R168). A no-operation. -/
def execPref (_n : Reg) (s : State) : Out := done s

/-- `0nC3` MOVCA.L R0,@Rn (R169). A long store (log 43). -/
def execMovcaL (n : Reg) (s : State) : Out := storeVal s .l (s.r n) (s.r 0)

/-- `0nm4` MOV.B Rm,@(R0,Rn) (R171). -/
def execMovBStoreIdx (n : Reg) (m : Reg) (s : State) : Out := storeVal s .b (s.eaIndexed n) (s.r m)

/-- `0nm5` MOV.W Rm,@(R0,Rn) (R172). -/
def execMovWStoreIdx (n : Reg) (m : Reg) (s : State) : Out := storeVal s .w (s.eaIndexed n) (s.r m)

/-- `0nm6` MOV.L Rm,@(R0,Rn) (R173). -/
def execMovLStoreIdx (n : Reg) (m : Reg) (s : State) : Out := storeVal s .l (s.eaIndexed n) (s.r m)

/-- `0nm7` MUL.L Rm,Rn (R174). -/
def execMulL (n : Reg) (m : Reg) (s : State) : Out := done { s with macl := s.r n * s.r m }

/-- `0008` CLRT (R175). -/
def execClrt (s : State) : Out := done (s.setT false)

/-- `0018` SETT (R176). -/
def execSett (s : State) : Out := done (s.setT true)

/-- `0028` CLRMAC (R177). -/
def execClrmac (s : State) : Out := done { s with mach := 0, macl := 0 }

/-- `0048` CLRS (R178). -/
def execClrs (s : State) : Out := done (s.setS false)

/-- `0058` SETS (R179). -/
def execSets (s : State) : Out := done (s.setS true)

/-- `0009` NOP (R180). -/
def execNop (s : State) : Out := done s

/-- `0019` DIV0U (R181). -/
def execDiv0u (s : State) : Out := done (((s.setM false).setQ false).setT false)

/-- `0n29` MOVT Rn (R182). -/
def execMovt (n : Reg) (s : State) : Out := done (s.setR n (wordOfBool s.t))

/-- `0n0A` STS MACH,Rn (R183). -/
def execStsMach (n : Reg) (s : State) : Out := done (s.setR n s.mach)

/-- `0n1A` STS MACL,Rn (R184). -/
def execStsMacl (n : Reg) (s : State) : Out := done (s.setR n s.macl)

/-- `0n2A` STS PR,Rn (R185). -/
def execStsPr (n : Reg) (s : State) : Out := done (s.setR n s.pr)

/-- `0n3A` STC SGR,Rn (R186). -/
def execStcSgr (n : Reg) (s : State) : Out := privileged s (done (s.setR n s.sgr))

/-- `0n5A` STS FPUL,Rn (R187). -/
def execStsFpul (n : Reg) (s : State) : Out := fpu s (done (s.setR n s.fpul))

/-- `0n6A` STS FPSCR,Rn (R188). -/
def execStsFpscr (n : Reg) (s : State) : Out := fpu s (done (s.setR n s.fpscr))

/-- `000B` RTS (R189). -/
def execRts (s : State) : Out := outsideSlot s (delayedBranch s s.pr)

/-- `001B` SLEEP (R190). In a delay slot it moves on to the target, which waking then saves. (logs 36, 46) -/
def execSleep (s : State) : Out := privileged s (done { s with asleep := true })

/-- `002B` RTE (R191). (logs 23, 36) -/
def execRte (s : State) : Out := outsideSlot s (privileged s (returnFromException s))

/-- `003B` BRK (R192). -/
def execBrk (s : State) : Out := outsideSlot s (raise .breakpoint s)

/-- `0nmC` MOV.B @(R0,Rm),Rn (R193). -/
def execMovBLoadIdx (n : Reg) (m : Reg) (s : State) : Out := loadReg s .b sextByte (s.eaIndexed m) n

/-- `0nmD` MOV.W @(R0,Rm),Rn (R194). -/
def execMovWLoadIdx (n : Reg) (m : Reg) (s : State) : Out := loadReg s .w sextHalf (s.eaIndexed m) n

/-- `0nmE` MOV.L @(R0,Rm),Rn (R195). -/
def execMovLLoadIdx (n : Reg) (m : Reg) (s : State) : Out := loadReg s .l id (s.eaIndexed m) n

/-- `0nmF` MAC.L @Rm,@Rn (R199). The second read uses the incremented register when m = n; a stop writes nothing (log 10). -/
def execMacL (n : Reg) (m : Reg) (s : State) : Out :=
  orStop s (s.read .l (s.r n)) fun a =>
    let s1 := a.state.setR n (s.r n + 4)
    orStop a.state (s1.read .l (s1.r m)) fun b =>
      done ((b.state.setR m (s1.r m + 4)).setMac (macLongResult s.satS s.mac a.value b.value))

end Sys2Proof.Machine
end

