-- ==== Sys2Proof/Machine/Group12.lean ====
section
/-! DEFINITION. Groups `1---` and `2---`: register stores, CAS.L, DIV0S, logic, 16-bit multiplies
(41_group1_2_store_logic.md R200 to R217). -/

namespace Sys2Proof.Machine

/-- `1nmd` MOV.L Rm,@(Rn,disp) (R200). -/
def execMovLStoreDisp (n : Reg) (m : Reg) (disp : Nibble) (s : State) : Out :=
  storeVal s .l (s.eaDisp n disp 4) (s.r m)

/-- `2nm0` MOV.B Rm,@Rn (R201). -/
def execMovBStore (n : Reg) (m : Reg) (s : State) : Out := storeVal s .b (s.r n) (s.r m)

/-- `2nm1` MOV.W Rm,@Rn (R202). -/
def execMovWStore (n : Reg) (m : Reg) (s : State) : Out := storeVal s .w (s.r n) (s.r m)

/-- `2nm2` MOV.L Rm,@Rn (R203). -/
def execMovLStore (n : Reg) (m : Reg) (s : State) : Out := storeVal s .l (s.r n) (s.r m)

/-- `2nm3` CAS.L Rm,Rn,@R0 (R205). The compare-and-swap of the J-core (log 35). -/
def execCasL (n : Reg) (m : Reg) (s : State) : Out :=
  let ea := s.r 0
  orStop s (s.readToModify .l ea) fun r =>
    if r.value = s.r m then
      orStop r.state (r.state.write .l ea (s.r n)) fun s1 => done ((s1.setT true).setR n r.value)
    else done ((r.state.setT false).setR n r.value)

/-- `2nm4` MOV.B Rm,@-Rn (R206). Pre-decrement (log 34). -/
def execMovBPush (n : Reg) (m : Reg) (s : State) : Out := pushVal s .b n (s.r m)

/-- `2nm5` MOV.W Rm,@-Rn (R207). Pre-decrement (log 34). -/
def execMovWPush (n : Reg) (m : Reg) (s : State) : Out := pushVal s .w n (s.r m)

/-- `2nm6` MOV.L Rm,@-Rn (R208). Pre-decrement (log 34). -/
def execMovLPush (n : Reg) (m : Reg) (s : State) : Out := pushVal s .l n (s.r m)

/-- `2nm7` DIV0S Rm,Rn (R209). -/
def execDiv0s (n : Reg) (m : Reg) (s : State) : Out :=
  done (((s.setQ (s.r n).msb).setM (s.r m).msb).setT ((s.r n).msb ^^ (s.r m).msb))

/-- `2nm8` TST Rm,Rn (R210). -/
def execTstR (n : Reg) (m : Reg) (s : State) : Out := done (s.setT (s.r n &&& s.r m == 0))

/-- `2nm9` AND Rm,Rn (R211). -/
def execAndR (n : Reg) (m : Reg) (s : State) : Out := done (s.setR n (s.r n &&& s.r m))

/-- `2nmA` XOR Rm,Rn (R212). -/
def execXorR (n : Reg) (m : Reg) (s : State) : Out := done (s.setR n (s.r n ^^^ s.r m))

/-- `2nmB` OR Rm,Rn (R213). -/
def execOrR (n : Reg) (m : Reg) (s : State) : Out := done (s.setR n (s.r n ||| s.r m))

/-- `2nmC` CMPSTR Rm,Rn (R214). -/
def execCmpstr (n : Reg) (m : Reg) (s : State) : Out :=
  done (s.setT (someByteEqual (s.r n) (s.r m)))

/-- `2nmD` XTRCT Rm,Rn (R215). -/
def execXtrct (n : Reg) (m : Reg) (s : State) : Out :=
  done (s.setR n ((s.r m).extractLsb' 0 16 ++ (s.r n).extractLsb' 16 16))

/-- `2nmE` MULU.W Rm,Rn (R216). -/
def execMuluW (n : Reg) (m : Reg) (s : State) : Out :=
  done { s with macl := zextHalf (s.r n) * zextHalf (s.r m) }

/-- `2nmF` MULS.W Rm,Rn (R217). -/
def execMulsW (n : Reg) (m : Reg) (s : State) : Out :=
  done { s with macl := sextHalf (s.r n) * sextHalf (s.r m) }

end Sys2Proof.Machine
end

