-- ==== Sys2Proof/Machine/Group567.lean ====
section
/-! DEFINITION. Groups `5---`, `6---`, `7---`: loads, unary operations, ADD #imm
(44_group5_6_7_load_unary_addimm.md R305 to R322). -/

namespace Sys2Proof.Machine

/-- `5nmd` MOV.L @(Rm,disp),Rn (R305). -/
def execMovLLoadDisp (n : Reg) (m : Reg) (disp : Nibble) (s : State) : Out :=
  loadReg s .l id (s.eaDisp m disp 4) n

/-- `6nm0` MOV.B @Rm,Rn (R306). -/
def execMovBLoad (n : Reg) (m : Reg) (s : State) : Out := loadReg s .b sextByte (s.r m) n

/-- `6nm1` MOV.W @Rm,Rn (R307). -/
def execMovWLoad (n : Reg) (m : Reg) (s : State) : Out := loadReg s .w sextHalf (s.r m) n

/-- `6nm2` MOV.L @Rm,Rn (R308). -/
def execMovLLoad (n : Reg) (m : Reg) (s : State) : Out := loadReg s .l id (s.r m) n

/-- `6nm3` MOV Rm,Rn (R309). -/
def execMovR (n : Reg) (m : Reg) (s : State) : Out := done (s.setR n (s.r m))

/-- `6nm4` MOV.B @Rm+,Rn (R310). -/
def execMovBLoadInc (n : Reg) (m : Reg) (s : State) : Out := loadInc s .b sextByte m n

/-- `6nm5` MOV.W @Rm+,Rn (R311). -/
def execMovWLoadInc (n : Reg) (m : Reg) (s : State) : Out := loadInc s .w sextHalf m n

/-- `6nm6` MOV.L @Rm+,Rn (R312). -/
def execMovLLoadInc (n : Reg) (m : Reg) (s : State) : Out := loadInc s .l id m n

/-- `6nm7` NOT Rm,Rn (R313). -/
def execNotR (n : Reg) (m : Reg) (s : State) : Out := done (s.setR n (~~~(s.r m)))

/-- `6nm8` SWAP.B Rm,Rn (R314). A register operand (log 43). -/
def execSwapB (n : Reg) (m : Reg) (s : State) : Out :=
  done (s.setR n ((s.r m).extractLsb' 16 16 ++ (s.r m).extractLsb' 0 8 ++ (s.r m).extractLsb' 8 8))

/-- `6nm9` SWAP.W Rm,Rn (R315). A register operand (log 43). -/
def execSwapW (n : Reg) (m : Reg) (s : State) : Out :=
  done (s.setR n ((s.r m).extractLsb' 0 16 ++ (s.r m).extractLsb' 16 16))

/-- `6nmA` NEGC Rm,Rn (R316). -/
def execNegc (n : Reg) (m : Reg) (s : State) : Out :=
  done ((s.setR n (BitVec.ofInt 32 (subWithBorrow 0 (s.r m) s.t))).setT (borrowOf 0 (s.r m) s.t))

/-- `6nmB` NEG Rm,Rn (R317). -/
def execNeg (n : Reg) (m : Reg) (s : State) : Out := done (s.setR n (0 - s.r m))

/-- `6nmC` EXTU.B Rm,Rn (R318). -/
def execExtuB (n : Reg) (m : Reg) (s : State) : Out := done (s.setR n (zextByte (s.r m)))

/-- `6nmD` EXTU.W Rm,Rn (R319). -/
def execExtuW (n : Reg) (m : Reg) (s : State) : Out := done (s.setR n (zextHalf (s.r m)))

/-- `6nmE` EXTS.B Rm,Rn (R320). -/
def execExtsB (n : Reg) (m : Reg) (s : State) : Out := done (s.setR n (sextByte (s.r m)))

/-- `6nmF` EXTS.W Rm,Rn (R321). -/
def execExtsW (n : Reg) (m : Reg) (s : State) : Out := done (s.setR n (sextHalf (s.r m)))

/-- `7nii` ADD #imm,Rn (R322). -/
def execAddI (n : Reg) (imm : BitVec 8) (s : State) : Out :=
  done (s.setR n (s.r n + imm.signExtend 32))

end Sys2Proof.Machine
end

