-- ==== Sys2Proof/Machine/Float.lean ====
section
/-! DEFINITION. `FPNUM` (47_groupF_fpu.md R366): the instance FPNUM_IEEE, computed exactly on integers and
rounded once, and for any other instance the values every instance agrees on. Where the spec fixes no
value, the value is the opaque `Config.fpFree` (logs 14 to 17). -/

namespace Sys2Proof.Machine

/-- A binary interchange format, by the widths of its exponent and fraction. -/
structure FpFormat where
  expBits : Nat
  fracBits : Nat
  deriving DecidableEq, Repr

/-- IEEE 754 binary32 (R366). -/
def fmtSingle : FpFormat := { expBits := 8, fracBits := 23 }

/-- IEEE 754 binary64 (R366). -/
def fmtDouble : FpFormat := { expBits := 11, fracBits := 52 }

/-- The exponent of a denormal number's last bit. -/
def FpFormat.minExp (f : FpFormat) : Int := 2 - 2 ^ (f.expBits - 1) - f.fracBits

/-- The pattern of +infinity. -/
def FpFormat.infinity (f : FpFormat) : Nat := (2 ^ f.expBits - 1) * 2 ^ f.fracBits

/-- The sign bit of a pattern. -/
def FpFormat.signBit (f : FpFormat) (neg : Bool) : Nat :=
  if neg then 2 ^ (f.expBits + f.fracBits) else 0

/-- Any NaN result: 0x7FBFFFFF, 0x7FF7FFFF_FFFFFFFF (R366). -/
def FpFormat.nan (f : FpFormat) : Nat := f.infinity + (2 ^ (f.fracBits - 1) - 1)

/-- The value of a pattern: a finite one is `mant * 2 ^ exp` with its sign, zero included. -/
inductive FpVal where
  | nan
  | inf (neg : Bool)
  | fin (neg : Bool) (mant : Nat) (exp : Int)
  deriving DecidableEq, Repr

/-- The value of a pattern; with `dn` a denormalized operand is zero of the same sign (R64, R366). -/
def fpUnpack (f : FpFormat) (dn : Bool) (v : Nat) : FpVal :=
  let neg := v / 2 ^ (f.expBits + f.fracBits) % 2 == 1
  let e := v / 2 ^ f.fracBits % 2 ^ f.expBits
  let frac := v % 2 ^ f.fracBits
  if e = 0 then .fin neg (if dn then 0 else frac) f.minExp
  else if e = 2 ^ f.expBits - 1 then (if frac = 0 then .inf neg else .nan)
  else .fin neg (2 ^ f.fracBits + frac) (f.minExp + (e - 1 : Nat))

/-- The pattern is a finite normal number or a zero (R366's agreed operands). -/
def fpPlain (f : FpFormat) (v : Nat) : Bool :=
  let e := v / 2 ^ f.fracBits % 2 ^ f.expBits
  if e = 0 then v % 2 ^ f.fracBits == 0 else e != 2 ^ f.expBits - 1

/-- The exponent of the last bit that a finite value keeps in the format. -/
def fpLastExp (f : FpFormat) (m : Nat) (e : Int) : Int :=
  max (e + (m.log2 : Int) - f.fracBits) f.minExp

/-- The pattern of a value: `toZero` rounds toward zero (RM = 1), else to nearest, ties to even (RM = 0);
with `dn` a denormalized result is zero of the same sign (R63, R64, R366). -/
def fpRound (f : FpFormat) (toZero dn : Bool) : FpVal → Nat
  | .nan => f.nan
  | .inf neg => f.signBit neg + f.infinity
  | .fin neg m e =>
    if m = 0 then f.signBit neg
    else
      let q := fpLastExp f m e
      let k :=
        if q ≤ e then m * 2 ^ (e - q).toNat
        else
          let sh := (q - e).toNat
          let k0 := m / 2 ^ sh
          let rest := m % 2 ^ sh
          let half := 2 ^ (sh - 1)
          if !toZero && (decide (half < rest) || (rest == half && k0 % 2 == 1)) then k0 + 1 else k0
      let pat := if dn && decide (k < 2 ^ f.fracBits) then 0 else (q - f.minExp).toNat * 2 ^ f.fracBits + k
      f.signBit neg + (if f.infinity ≤ pat then (if toZero then f.infinity - 1 else f.infinity) else pat)

/-- The value is a nonzero normal number of the format, representable without rounding (R366). -/
def fpExactNormal (f : FpFormat) : FpVal → Bool
  | .nan => false
  | .inf _ => false
  | .fin _ m e =>
    m != 0 && decide (f.minExp ≤ e + (m.log2 : Int) - f.fracBits)
      && (decide (fpLastExp f m e ≤ e) || m % 2 ^ (fpLastExp f m e - e).toNat == 0)
      && decide (e + (m.log2 : Int) - f.fracBits - f.minExp < 2 ^ f.expBits - 2)

/-- The signed mantissa of a finite value at a smaller exponent. -/
def fpAlign (neg : Bool) (m : Nat) (e low : Int) : Int :=
  if neg then -((m * 2 ^ (e - low).toNat : Nat) : Int) else ((m * 2 ^ (e - low).toNat : Nat) : Int)

/-- The exact sum. A zero sum of operands of two signs is +0. -/
def fpAdd : FpVal → FpVal → FpVal
  | .nan, _ => .nan
  | _, .nan => .nan
  | .inf a, .inf b => if a == b then .inf a else .nan
  | .inf a, .fin _ _ _ => .inf a
  | .fin _ _ _, .inf b => .inf b
  | .fin a m e, .fin b n g =>
    let low := min e g
    let sum := fpAlign a m e low + fpAlign b n g low
    if sum = 0 then .fin (a && b) 0 low else .fin (decide (sum < 0)) sum.natAbs low

/-- The value with its sign changed. -/
def fpNegate : FpVal → FpVal
  | .nan => .nan
  | .inf a => .inf (!a)
  | .fin a m e => .fin (!a) m e

/-- The exact difference. -/
def fpSub (a b : FpVal) : FpVal := fpAdd a (fpNegate b)

/-- The exact product. -/
def fpMul : FpVal → FpVal → FpVal
  | .nan, _ => .nan
  | _, .nan => .nan
  | .inf a, .inf b => .inf (a ^^ b)
  | .inf a, .fin b n _ => if n = 0 then .nan else .inf (a ^^ b)
  | .fin a m _, .inf b => if m = 0 then .nan else .inf (a ^^ b)
  | .fin a m e, .fin b n g => .fin (a ^^ b) (m * n) (e + g)

/-- The quotient, to more bits than the format keeps and one that says whether more follow, so that rounding
it rounds the exact quotient. -/
def fpDiv (f : FpFormat) : FpVal → FpVal → FpVal
  | .nan, _ => .nan
  | _, .nan => .nan
  | .inf _, .inf _ => .nan
  | .inf a, .fin b _ _ => .inf (a ^^ b)
  | .fin a _ _, .inf b => .fin (a ^^ b) 0 0
  | .fin a m e, .fin b n g =>
    if n = 0 then (if m = 0 then .nan else .inf (a ^^ b))
    else if m = 0 then .fin (a ^^ b) 0 0
    else
      let k := 2 * f.fracBits + 6
      let q := m * 2 ^ k / n
      let more := if m * 2 ^ k % n = 0 then 0 else 1
      .fin (a ^^ b) (2 * q + more) (e - g - k - 1)

/-- The integer square root of `n`, by its bits from `bits - 1` down. -/
def isqrtFrom (n : Nat) : Nat → Nat → Nat
  | 0, r => r
  | bits + 1, r => isqrtFrom n bits (if (r + 2 ^ bits) * (r + 2 ^ bits) ≤ n then r + 2 ^ bits else r)

/-- The square root, to more bits than the format keeps and one that says whether more follow. -/
def fpSqrt (f : FpFormat) : FpVal → FpVal
  | .nan => .nan
  | .inf neg => if neg then .nan else .inf false
  | .fin neg m e =>
    if m = 0 then .fin neg 0 0
    else if neg then .nan
    else
      let k := 2 * f.fracBits + 6 + (e % 2).toNat
      let n := m * 2 ^ k
      let r := isqrtFrom n (n.log2 / 2 + 1) 0
      let more := if r * r = n then 0 else 1
      .fin false (2 * r + more) ((e - k) / 2 - 1)

/-- Ordered equality: a NaN equals nothing, +0 equals -0 (R366). -/
def fpEq : FpVal → FpVal → Bool
  | .inf a, .inf b => a == b
  | .fin a m e, .fin b n g => decide (fpAlign a m e (min e g) = fpAlign b n g (min e g))
  | _, _ => false

/-- Ordered greater (R366). -/
def fpGt : FpVal → FpVal → Bool
  | .nan, _ => false
  | _, .nan => false
  | .inf a, .inf b => !a && b
  | .inf a, .fin _ _ _ => !a
  | .fin _ _ _, .inf b => b
  | .fin a m e, .fin b n g => decide (fpAlign b n g (min e g) < fpAlign a m e (min e g))

/-- The magnitude of a finite value truncated to an integer. -/
def fpTruncate (m : Nat) (e : Int) : Nat :=
  if 0 ≤ e then m * 2 ^ e.toNat else m / 2 ^ (-e).toNat

/-- Truncation to a signed 32-bit integer, saturating; a NaN gives 0x80000000 (R366). -/
def fpToInt : FpVal → Word
  | .nan => 0x80000000
  | .inf neg => if neg then 0x80000000 else 0x7FFFFFFF
  | .fin neg m e =>
    let k := fpTruncate m e
    if neg then (if 2 ^ 31 ≤ k then 0x80000000 else BitVec.ofInt 32 (-(k : Int)))
    else if 2 ^ 31 ≤ k then 0x7FFFFFFF else BitVec.ofNat 32 k

/-- The truncated value is in the integer range, so every instance agrees on it (R366). -/
def fpIntExact : FpVal → Bool
  | .nan => false
  | .inf _ => false
  | .fin neg m e =>
    let k := fpTruncate m e
    if neg then decide (k ≤ 2 ^ 31) else decide (k < 2 ^ 31)

/-- A signed 32-bit integer as a value. -/
def fpOfInt (i : Word) : FpVal := .fin i.msb i.toInt.natAbs 0

/-- The pattern that `FPNUM` answers for a rounded result `v` in format `f`, with `dn` the DN that the function is given.
For an instance other than FPNUM_IEEE it is free where the instances need not agree (log 14), and with RM = 2 or 3,
where FPNUM_IEEE has no value to agree with and `rounding` stops (log 15). -/
def fpPattern (s : State) (dn : Bool) (f : FpFormat) (op : FpOp) (agreed : Bool) (v : FpVal)
    (a b c : BitVec 64) : BitVec 64 :=
  let ieee := BitVec.ofNat 64 (fpRound f (s.rm == 1) dn v)
  match s.cfg.fpnum with
  | .ieee => ieee
  | .other => if agreed && !s.rm.msb then ieee else Config.fpFree op s.rm dn a b c

/-- The value of an operand pattern under FPSCR.DN. -/
def State.fpIn (s : State) (f : FpFormat) (a : BitVec 64) : FpVal := fpUnpack f s.dn a.toNat

/-- `add`, `sub`, `mul`, `div` in format `f` (R366). -/
def fpBinary (s : State) (f : FpFormat) (op : FpOp) (g : FpVal → FpVal → FpVal)
    (a b : BitVec 64) : BitVec 64 :=
  let v := g (s.fpIn f a) (s.fpIn f b)
  fpPattern s s.dn f op (fpPlain f a.toNat && fpPlain f b.toNat && fpExactNormal f v) v a b 0

/-- `sqrt` in format `f` (R366). -/
def fpUnary (s : State) (f : FpFormat) (op : FpOp) (g : FpVal → FpVal) (a : BitVec 64) : BitVec 64 :=
  let v := g (s.fpIn f a)
  fpPattern s s.dn f op (fpPlain f a.toNat && fpExactNormal f v) v a 0 0

/-- `mac32`: `a * b + c`, rounded once (R366, R395; log 16). -/
def fpMac (s : State) (a b c : Word) : Word :=
  let x := a.setWidth 64
  let y := b.setWidth 64
  let z := c.setWidth 64
  let v := fpAdd (fpMul (s.fpIn fmtSingle x) (s.fpIn fmtSingle y)) (s.fpIn fmtSingle z)
  let plain := fpPlain fmtSingle a.toNat && fpPlain fmtSingle b.toNat && fpPlain fmtSingle c.toNat
  (fpPattern s s.dn fmtSingle .mac32 (plain && fpExactNormal fmtSingle v) v x y z).setWidth 32

/-- `eq` and `gt` in format `f`; RM plays no part (R366; log 17). -/
def fpCompare (s : State) (f : FpFormat) (op : FpOp) (g : FpVal → FpVal → Bool)
    (a b : BitVec 64) : Bool :=
  let ieee := g (s.fpIn f a) (s.fpIn f b)
  match s.cfg.fpnum with
  | .ieee => ieee
  | .other =>
    if fpPlain f a.toNat && fpPlain f b.toNat then ieee
    else (Config.fpFree op 0 s.dn a b 0).getLsbD 0

/-- `trc` from format `f`; RM plays no part (R366, R386). -/
def fpTrc (s : State) (f : FpFormat) (op : FpOp) (a : BitVec 64) : Word :=
  let v := s.fpIn f a
  match s.cfg.fpnum with
  | .ieee => fpToInt v
  | .other =>
    if fpIntExact v then fpToInt v else (Config.fpFree op 0 s.dn a 0 0).setWidth 32

/-- `float32`, the signed integer in FPUL to single; it is not given DN (R366, R385). -/
def fpFloat32 (s : State) (i : Word) : Word :=
  let v := fpOfInt i
  (fpPattern s false fmtSingle .float32 (i == 0 || fpExactNormal fmtSingle v) v (i.setWidth 64) 0 0).setWidth 32

/-- `float64`, always exact (R385): the same under every instance and every RM. -/
def fpFloat64 (i : Word) : BitVec 64 := BitVec.ofNat 64 (fpRound fmtDouble true false (fpOfInt i))

/-- `cnvsd`, single to double, exact; RM plays no part (R366, R392). -/
def fpCnvsd (s : State) (a : Word) : BitVec 64 :=
  let v := s.fpIn fmtSingle (a.setWidth 64)
  let ieee := BitVec.ofNat 64 (fpRound fmtDouble true false v)
  match s.cfg.fpnum with
  | .ieee => ieee
  | .other =>
    if fpPlain fmtSingle a.toNat && fpExactNormal fmtDouble v then ieee
    else Config.fpFree .cnvsd 0 s.dn (a.setWidth 64) 0 0

/-- `cnvds`, double to single, rounded (R366, R393). -/
def fpCnvds (s : State) (a : BitVec 64) : Word :=
  let v := s.fpIn fmtDouble a
  (fpPattern s s.dn fmtSingle .cnvds (fpPlain fmtDouble a.toNat && fpExactNormal fmtSingle v) v a 0 0).setWidth 32

/-- A two-operand arithmetic instruction at the width that FPSCR.PR selects (R368, R370 to R373). -/
def fpArith (s : State) (op32 op64 : FpOp) (g : FpFormat → FpVal → FpVal → FpVal) (n m : FReg) : State :=
  if s.double then s.setDr n (fpBinary s fmtDouble op64 (g fmtDouble) (s.dr n) (s.dr m))
  else
    s.setFr n
      ((fpBinary s fmtSingle op32 (g fmtSingle) ((s.fr n).setWidth 64) ((s.fr m).setWidth 64)).setWidth 32)

/-- A compare at the width that FPSCR.PR selects (R368, R374, R375). -/
def fpTest (s : State) (op32 op64 : FpOp) (g : FpVal → FpVal → Bool) (n m : FReg) : Bool :=
  if s.double then fpCompare s fmtDouble op64 g (s.dr n) (s.dr m)
  else fpCompare s fmtSingle op32 g ((s.fr n).setWidth 64) ((s.fr m).setWidth 64)

end Sys2Proof.Machine
end

