-- ==== Sys2Proof/Machine/GroupF.lean ====
section
/-! DEFINITION. Group `F---`: the FPU (47_groupF_fpu.md R365 to R395). -/

namespace Sys2Proof.Machine

/-- `Fnm0` FADD FRm,FRn (R370). -/
def execFadd (n : FReg) (m : FReg) (s : State) : Out :=
  fpu s (evenField s n (evenField s m (rounding s (done (fpArith s .add32 .add64 (fun _ => fpAdd) n m)))))

/-- `Fnm1` FSUB FRm,FRn (R371). -/
def execFsub (n : FReg) (m : FReg) (s : State) : Out :=
  fpu s (evenField s n (evenField s m (rounding s (done (fpArith s .sub32 .sub64 (fun _ => fpSub) n m)))))

/-- `Fnm2` FMUL FRm,FRn (R372). -/
def execFmul (n : FReg) (m : FReg) (s : State) : Out :=
  fpu s (evenField s n (evenField s m (rounding s (done (fpArith s .mul32 .mul64 (fun _ => fpMul) n m)))))

/-- `Fnm3` FDIV FRm,FRn (R373). -/
def execFdiv (n : FReg) (m : FReg) (s : State) : Out :=
  fpu s (evenField s n (evenField s m (rounding s (done (fpArith s .div32 .div64 fpDiv n m)))))

/-- `Fnm4` FCMPEQ FRm,FRn (R374). -/
def execFcmpeq (n : FReg) (m : FReg) (s : State) : Out :=
  fpu s (evenField s n (evenField s m (done (s.setT (fpTest s .eq32 .eq64 fpEq n m)))))

/-- `Fnm5` FCMPGT FRm,FRn (R375). -/
def execFcmpgt (n : FReg) (m : FReg) (s : State) : Out :=
  fpu s (evenField s n (evenField s m (done (s.setT (fpTest s .gt32 .gt64 fpGt n m)))))

/-- `Fnm6` FMOV.S @(R0,Rm),FRn (R376). -/
def execFmovLoadIdx (n : FReg) (m : Reg) (s : State) : Out :=
  fpu s (fmovLoad s (s.eaIndexed m) n id)

/-- `Fnm7` FMOV.S FRm,@(R0,Rn) (R377). -/
def execFmovStoreIdx (n : Reg) (m : FReg) (s : State) : Out :=
  fpu s (fmovStore s (s.eaIndexed n) m id)

/-- `Fnm8` FMOV.S @Rm,FRn (R378). -/
def execFmovLoad (n : FReg) (m : Reg) (s : State) : Out := fpu s (fmovLoad s (s.r m) n id)

/-- `Fnm9` FMOV.S @Rm+,FRn (R379). -/
def execFmovLoadInc (n : FReg) (m : Reg) (s : State) : Out :=
  fpu s (fmovLoad s (s.r m) n fun t => t.setR m (s.r m + s.fmovBytes))

/-- `FnmA` FMOV.S FRm,@Rn (R380). -/
def execFmovStore (n : Reg) (m : FReg) (s : State) : Out := fpu s (fmovStore s (s.r n) m id)

/-- `FnmB` FMOV.S FRm,@-Rn (R381). -/
def execFmovPush (n : Reg) (m : FReg) (s : State) : Out :=
  fpu s (fmovStore s (s.r n - s.fmovBytes) m fun t => t.setR n (s.r n - s.fmovBytes))

/-- `FnmC` FMOV FRm,FRn (R382). -/
def execFmovR (n : FReg) (m : FReg) (s : State) : Out :=
  fpu s (done (if s.sz then s.setPair n (s.pair m) else s.setFr n (s.fr m)))

/-- `Fn0D` FSTS FRn (R383). -/
def execFsts (n : FReg) (s : State) : Out := fpu s (done (s.setFr n s.fpul))

/-- `Fm1D` FLDS FRm (R384). -/
def execFlds (m : FReg) (s : State) : Out := fpu s (done { s with fpul := s.fr m })

/-- `Fn2D` FLOAT FRn (R385). -/
def execFloat (n : FReg) (s : State) : Out :=
  fpu s (evenField s n
    (if s.double then done (s.setDr n (fpFloat64 s.fpul))
     else rounding s (done (s.setFr n (fpFloat32 s s.fpul)))))

/-- `Fm3D` FTRC FRm (R386). -/
def execFtrc (m : FReg) (s : State) : Out :=
  fpu s (evenField s m (done { s with
    fpul :=
      if s.double then fpTrc s fmtDouble .trc64 (s.dr m)
      else fpTrc s fmtSingle .trc32 ((s.fr m).setWidth 64) }))

/-- `Fn4D` FNEG FRn (R387). -/
def execFneg (n : FReg) (s : State) : Out := fpu s (done (s.setFr n (s.fr n ^^^ 0x80000000)))

/-- `Fn5D` FABS FRn (R388). -/
def execFabs (n : FReg) (s : State) : Out := fpu s (done (s.setFr n (s.fr n &&& 0x7FFFFFFF)))

/-- `Fn6D` FSQRT FRn (R389). -/
def execFsqrt (n : FReg) (s : State) : Out :=
  fpu s (evenField s n (rounding s (done
    (if s.double then s.setDr n (fpUnary s fmtDouble .sqrt64 (fpSqrt fmtDouble) (s.dr n))
     else s.setFr n
       ((fpUnary s fmtSingle .sqrt32 (fpSqrt fmtSingle) ((s.fr n).setWidth 64)).setWidth 32)))))

/-- `Fn8D` FLDI0 FRn (R390). -/
def execFldi0 (n : FReg) (s : State) : Out := fpu s (singleOnly s (done (s.setFr n 0)))

/-- `Fn9D` FLDI1 FRn (R391). -/
def execFldi1 (n : FReg) (s : State) : Out := fpu s (singleOnly s (done (s.setFr n 0x3F800000)))

/-- `FnAD` FCNVSD FRn (R392). -/
def execFcnvsd (n : FReg) (s : State) : Out :=
  fpu s (doubleOnly s n (done (s.setDr n (fpCnvsd s s.fpul))))

/-- `FmBD` FCNVDS FRm (R393). -/
def execFcnvds (m : FReg) (s : State) : Out :=
  fpu s (doubleOnly s m (rounding s (done { s with fpul := fpCnvds s (s.dr m) })))

/-- `F3FD` FSCHG (R394). -/
def execFschg (s : State) : Out := fpu s (done { s with fpscr := setBit s.fpscr 20 (!s.sz) })

/-- `FnmE` FMAC FRm,FRn (R395). (log 16) -/
def execFmac (n : FReg) (m : FReg) (s : State) : Out :=
  fpu s (singleOnly s (rounding s (done (s.setFr n (fpMac s (s.fr 0) (s.fr m) (s.fr n))))))

end Sys2Proof.Machine
end

