-- ==== Sys2Proof/Machine/Reserved.lean ====
section
/-! DEFINITION. The rows that are reserved encodings: each raises IllegalInstruction, SlotIllegal in a delay
slot (30_encoding.md R150; 48_ext_superops_32bit.md R413, R417 to R424; log 25). -/

namespace Sys2Proof.Machine

/-- `0n52` STC ?,Rn (R424). -/
def execStcUnk052 (_n : Reg) (s : State) : Out := reservedEncoding s

/-- `0n63` MOVLI.L @Rm,R0 (R424). -/
def execMovliL (_n : Reg) (s : State) : Out := reservedEncoding s

/-- `0n73` MOVCO.L R0,@Rn (R424). -/
def execMovcoL (_n : Reg) (s : State) : Out := reservedEncoding s

/-- `0n93` OCBI @Rn (R424). -/
def execOcbi (_n : Reg) (s : State) : Out := reservedEncoding s

/-- `0nA3` OCBP @Rn (R424). -/
def execOcbp (_n : Reg) (s : State) : Out := reservedEncoding s

/-- `0nB3` OCBWB @Rn (R424). -/
def execOcbwb (_n : Reg) (s : State) : Out := reservedEncoding s

/-- `0nE3` ICBI @Rn (R424). -/
def execIcbi (_n : Reg) (s : State) : Out := reservedEncoding s

/-- `0038` LDTLB (R424). -/
def execLdtlb (s : State) : Out := reservedEncoding s

/-- `0068` NOTT (R424). -/
def execNott (s : State) : Out := reservedEncoding s

/-- `0n39` MOVRT Rn (R424). -/
def execMovrt (_n : Reg) (s : State) : Out := reservedEncoding s

/-- `0mA9` MOVUA.L @Rm,R0 (R424). -/
def execMovuaL0 (_m : Reg) (s : State) : Out := reservedEncoding s

/-- `0mE9` MOVUA.L @Rm+,R0 (R424). -/
def execMovuaLInc0 (_m : Reg) (s : State) : Out := reservedEncoding s

/-- `0n4A` STC ?,Rn (R424). -/
def execStcUnk04A (_n : Reg) (s : State) : Out := reservedEncoding s

/-- `005B` RESBANK (R424). -/
def execResbank (s : State) : Out := reservedEncoding s

/-- `006B` RTS_N (R424). -/
def execRtsN (s : State) : Out := reservedEncoding s

/-- `0m7B` RTV_N Rm (R424). -/
def execRtvN (_m : Reg) (s : State) : Out := reservedEncoding s

/-- `00AB` SYNCO (R424). -/
def execSynco (s : State) : Out := reservedEncoding s

/-- `4n80` MULR R0,Rn (R424). -/
def execMulr (_n : Reg) (s : State) : Out := reservedEncoding s

/-- `4mF0` MOVMU.L Rm,@-R15 (R424). -/
def execMovmuLPush (_m : Reg) (s : State) : Out := reservedEncoding s

/-- `4n81` CLIPU.B (R424). -/
def execClipuB (_n : Reg) (s : State) : Out := reservedEncoding s

/-- `4n91` CLIPS.B (R424). -/
def execClipsB (_n : Reg) (s : State) : Out := reservedEncoding s

/-- `4nE1` STBANK r0,@Rn (R424). -/
def execStbank (_n : Reg) (s : State) : Out := reservedEncoding s

/-- `4mF1` MOVML.L Rm,@-R15 (R424). -/
def execMovmlLPush (_m : Reg) (s : State) : Out := reservedEncoding s

/-- `4n42` STC.L ?,@-Rn (R424). -/
def execStclUnk42 (_n : Reg) (s : State) : Out := reservedEncoding s

/-- `4n53` STC.L ?,@-Rn (R424). -/
def execStclUnk53 (_n : Reg) (s : State) : Out := reservedEncoding s

/-- `4n84` DIVU R0,Rn (R424). -/
def execDivu (_n : Reg) (s : State) : Out := reservedEncoding s

/-- `4n94` DIVS R0,Rn (R424). -/
def execDivs (_n : Reg) (s : State) : Out := reservedEncoding s

/-- `4nF4` MOVMU.L @R15+,Rn (R424). -/
def execMovmuLPop (_n : Reg) (s : State) : Out := reservedEncoding s

/-- `4n85` CLIPU.W (R424). -/
def execClipuW (_n : Reg) (s : State) : Out := reservedEncoding s

/-- `4n95` CLIPS.W (R424). -/
def execClipsW (_n : Reg) (s : State) : Out := reservedEncoding s

/-- `4mE5` LDBANK @Rm,R0 (R424). -/
def execLdbank (_m : Reg) (s : State) : Out := reservedEncoding s

/-- `4nF5` MOVML.L @R15+,Rn (R424). -/
def execMovmlLPop (_n : Reg) (s : State) : Out := reservedEncoding s

/-- `4m46` LDC.L @Rm+,? (R424). -/
def execLdclUnk46 (_m : Reg) (s : State) : Out := reservedEncoding s

/-- `4m57` LDC.L @Rm+,? (R424). -/
def execLdclUnk57 (_m : Reg) (s : State) : Out := reservedEncoding s

/-- `4mA9` MOVUA.L @Rm,R0 (R424). -/
def execMovuaL4 (_m : Reg) (s : State) : Out := reservedEncoding s

/-- `4mE9` MOVUA.L @Rm+,R0 (R424). -/
def execMovuaLInc4 (_m : Reg) (s : State) : Out := reservedEncoding s

/-- `4m4A` LDC Rm,? (R424). -/
def execLdcUnk4A (_m : Reg) (s : State) : Out := reservedEncoding s

/-- `4m4B` JSR_N (R424). -/
def execJsrN4B (_m : Reg) (s : State) : Out := reservedEncoding s

/-- `4m8B` MOV.B R0,@Rn+ (R424). -/
def execMovBStoreInc (_m : Reg) (s : State) : Out := reservedEncoding s

/-- `4m9B` MOV.W R0,@Rn+ (R424). -/
def execMovWStoreInc (_m : Reg) (s : State) : Out := reservedEncoding s

/-- `4mAB` MOV.L R0,@Rn+ (R424). -/
def execMovLStoreInc (_m : Reg) (s : State) : Out := reservedEncoding s

/-- `4mCB` MOV.B @-Rm,R0 (R424). -/
def execMovBLoadDec (_m : Reg) (s : State) : Out := reservedEncoding s

/-- `4mDB` MOV.W @-Rm,R0 (R424). -/
def execMovWLoadDec (_m : Reg) (s : State) : Out := reservedEncoding s

/-- `4mEB` MOV.L @-Rm,R0 (R424). -/
def execMovLLoadDec (_m : Reg) (s : State) : Out := reservedEncoding s

/-- `4m5E` LDC Rm,? (R424). -/
def execLdcUnk5E (_m : Reg) (s : State) : Out := reservedEncoding s

/-- `83--` JSR_N (R424). -/
def execJsrN83 (_x : BitVec 8) (s : State) : Out := reservedEncoding s

/-- `86--` BSET|BCLR #imm3,Rn (R424). -/
def execBsetBclr (_x : BitVec 8) (s : State) : Out := reservedEncoding s

/-- `87--` BST|BLD #imm3,Rn (R424). -/
def execBstBld (_x : BitVec 8) (s : State) : Out := reservedEncoding s

/-- `F-7D` FSRRA (R424). -/
def execFsrra (_x : Nibble) (s : State) : Out := reservedEncoding s

/-- `F-ED` FIPR (R424). -/
def execFipr (_x : Nibble) (s : State) : Out := reservedEncoding s

/-- `F0FD` FSCA (R424). -/
def execFscaF0 (s : State) : Out := reservedEncoding s

/-- `F1FD` FTRV2 (R424). -/
def execFtrv2F1 (s : State) : Out := reservedEncoding s

/-- `F2FD` FSCA (R424). -/
def execFscaF2 (s : State) : Out := reservedEncoding s

/-- `F4FD` FSCA (R424). -/
def execFscaF4 (s : State) : Out := reservedEncoding s

/-- `F5FD` FTRV2 (R424). -/
def execFtrv2F5 (s : State) : Out := reservedEncoding s

/-- `F6FD` FSCA (R424). -/
def execFscaF6 (s : State) : Out := reservedEncoding s

/-- `F7FD` FPCHG (R424). -/
def execFpchg (s : State) : Out := reservedEncoding s

/-- `F8FD` FSCA (R424). -/
def execFscaF8 (s : State) : Out := reservedEncoding s

/-- `F9FD` FTRV2 (R424). -/
def execFtrv2F9 (s : State) : Out := reservedEncoding s

/-- `FAFD` FSCA (R424). -/
def execFscaFA (s : State) : Out := reservedEncoding s

/-- `FBFD` FRCHG (R424). -/
def execFrchg (s : State) : Out := reservedEncoding s

/-- `FCFD` FSCA (R424). -/
def execFscaFC (s : State) : Out := reservedEncoding s

/-- `FDFD` FTRV2 (R424). -/
def execFtrv2FD (s : State) : Out := reservedEncoding s

/-- `FEFD` FSCA (R424). -/
def execFscaFE (s : State) : Out := reservedEncoding s

/-- `F--F` BT_RES-32 (R413). -/
def execResFF (_x : Nibble) (_y : Nibble) (s : State) : Out := reservedEncoding s

/-- `0ni0-iiii` MOVI20 #imm,Rn (R417). -/
def execMovi20 (_n : Reg) (_imm : BitVec 20) (s : State) : Out := reservedEncoding s

/-- `0ni1-iiii` MOVI20S #imm,Rn (R417). -/
def execMovi20s (_n : Reg) (_imm : BitVec 20) (s : State) : Out := reservedEncoding s

/-- `3nm1-0ddd` MOV.B Rm,@(Rn,disp) (R418). -/
def execMovBStoreD12 (_n : Reg) (_m : Reg) (_disp : BitVec 12) (s : State) : Out :=
  reservedEncoding s

/-- `3nm1-1ddd` MOV.W Rm,@(Rn,disp) (R418). -/
def execMovWStoreD12 (_n : Reg) (_m : Reg) (_disp : BitVec 12) (s : State) : Out :=
  reservedEncoding s

/-- `3nm1-2ddd` MOV.L Rm,@(Rn,disp) (R418). -/
def execMovLStoreD12 (_n : Reg) (_m : Reg) (_disp : BitVec 12) (s : State) : Out :=
  reservedEncoding s

/-- `3nm1-3ddd` FMOV.S FRm,@(Rn,disp) (R418). -/
def execFmovStoreD12 (_n : Reg) (_m : FReg) (_disp : BitVec 12) (s : State) : Out :=
  reservedEncoding s

/-- `3nm1-4ddd` MOV.B @(Rm,disp),Rn (R418). -/
def execMovBLoadD12 (_n : Reg) (_m : Reg) (_disp : BitVec 12) (s : State) : Out :=
  reservedEncoding s

/-- `3nm1-5ddd` MOV.W @(Rm,disp),Rn (R418). -/
def execMovWLoadD12 (_n : Reg) (_m : Reg) (_disp : BitVec 12) (s : State) : Out :=
  reservedEncoding s

/-- `3nm1-6ddd` MOV.L @(Rm,disp),Rn (R418). -/
def execMovLLoadD12 (_n : Reg) (_m : Reg) (_disp : BitVec 12) (s : State) : Out :=
  reservedEncoding s

/-- `3nm1-7ddd` FMOV.S @(Rm,disp),FRn (R418). -/
def execFmovLoadD12 (_n : FReg) (_m : Reg) (_disp : BitVec 12) (s : State) : Out :=
  reservedEncoding s

/-- `3nm1-8ddd` MOVU.B @(Rm,disp),Rn (R418). -/
def execMovuBLoadD12 (_n : Reg) (_m : Reg) (_disp : BitVec 12) (s : State) : Out :=
  reservedEncoding s

/-- `3nm1-9ddd` MOVU.W @(Rm,disp),Rn (R418). -/
def execMovuWLoadD12 (_n : Reg) (_m : Reg) (_disp : BitVec 12) (s : State) : Out :=
  reservedEncoding s

/-- `3ni9-0ddd` BCLR.B (R419). -/
def execBclrB (_n : Reg) (_imm : Nibble) (_disp : BitVec 12) (s : State) : Out := reservedEncoding s

/-- `3ni9-1ddd` BSET.B (R419). -/
def execBsetB (_n : Reg) (_imm : Nibble) (_disp : BitVec 12) (s : State) : Out := reservedEncoding s

/-- `3ni9-2ddd` BST.B (R419). -/
def execBstB (_n : Reg) (_imm : Nibble) (_disp : BitVec 12) (s : State) : Out := reservedEncoding s

/-- `3ni9-3ddd` BLD.B (R419). -/
def execBldB (_n : Reg) (_imm : Nibble) (_disp : BitVec 12) (s : State) : Out := reservedEncoding s

/-- `3ni9-4ddd` BAND.B (R419). -/
def execBandB (_n : Reg) (_imm : Nibble) (_disp : BitVec 12) (s : State) : Out := reservedEncoding s

/-- `3ni9-5ddd` BOR.B (R419). -/
def execBorB (_n : Reg) (_imm : Nibble) (_disp : BitVec 12) (s : State) : Out := reservedEncoding s

/-- `3ni9-6ddd` BXOR.B (R419). -/
def execBxorB (_n : Reg) (_imm : Nibble) (_disp : BitVec 12) (s : State) : Out := reservedEncoding s

/-- `3ni9-Bddd` BLDNOT.B (R419). -/
def execBldnotB (_n : Reg) (_imm : Nibble) (_disp : BitVec 12) (s : State) : Out :=
  reservedEncoding s

/-- `3ni9-Cddd` BANDNOT.B (R419). -/
def execBandnotB (_n : Reg) (_imm : Nibble) (_disp : BitVec 12) (s : State) : Out :=
  reservedEncoding s

/-- `3ni9-Dddd` BORNOT.B (R419). -/
def execBornotB (_n : Reg) (_imm : Nibble) (_disp : BitVec 12) (s : State) : Out :=
  reservedEncoding s

end Sys2Proof.Machine
end

