-- ==== Sys2Proof/Machine/Dispatch.lean ====
section
/-! DEFINITION. One arm for each instruction, each one call of its meaning. -/

namespace Sys2Proof.Machine

def exec (i : Instr) (s : State) : Host.Outcome State Fault Refusal :=
  match i with
  | .stcSr n => Sys2Proof.Machine.execStcSr n s
  | .stcGbr n => Sys2Proof.Machine.execStcGbr n s
  | .stcVbr n => Sys2Proof.Machine.execStcVbr n s
  | .stcSsr n => Sys2Proof.Machine.execStcSsr n s
  | .stcSpc n => Sys2Proof.Machine.execStcSpc n s
  | .stcUnk052 n => Sys2Proof.Machine.execStcUnk052 n s
  | .stcBank n mb => Sys2Proof.Machine.execStcBank n mb s
  | .bsrf m => Sys2Proof.Machine.execBsrf m s
  | .bsaf m => Sys2Proof.Machine.execBsaf m s
  | .movliL n => Sys2Proof.Machine.execMovliL n s
  | .movcoL n => Sys2Proof.Machine.execMovcoL n s
  | .pref n => Sys2Proof.Machine.execPref n s
  | .ocbi n => Sys2Proof.Machine.execOcbi n s
  | .ocbp n => Sys2Proof.Machine.execOcbp n s
  | .ocbwb n => Sys2Proof.Machine.execOcbwb n s
  | .movcaL n => Sys2Proof.Machine.execMovcaL n s
  | .icbi n => Sys2Proof.Machine.execIcbi n s
  | .movBStoreIdx n m => Sys2Proof.Machine.execMovBStoreIdx n m s
  | .movWStoreIdx n m => Sys2Proof.Machine.execMovWStoreIdx n m s
  | .movLStoreIdx n m => Sys2Proof.Machine.execMovLStoreIdx n m s
  | .mulL n m => Sys2Proof.Machine.execMulL n m s
  | .movt n => Sys2Proof.Machine.execMovt n s
  | .movrt n => Sys2Proof.Machine.execMovrt n s
  | .movuaL0 m => Sys2Proof.Machine.execMovuaL0 m s
  | .movuaLInc0 m => Sys2Proof.Machine.execMovuaLInc0 m s
  | .stsMach n => Sys2Proof.Machine.execStsMach n s
  | .stsMacl n => Sys2Proof.Machine.execStsMacl n s
  | .stsPr n => Sys2Proof.Machine.execStsPr n s
  | .stcSgr n => Sys2Proof.Machine.execStcSgr n s
  | .stcUnk04A n => Sys2Proof.Machine.execStcUnk04A n s
  | .stsFpul n => Sys2Proof.Machine.execStsFpul n s
  | .stsFpscr n => Sys2Proof.Machine.execStsFpscr n s
  | .rtvN m => Sys2Proof.Machine.execRtvN m s
  | .movBLoadIdx n m => Sys2Proof.Machine.execMovBLoadIdx n m s
  | .movWLoadIdx n m => Sys2Proof.Machine.execMovWLoadIdx n m s
  | .movLLoadIdx n m => Sys2Proof.Machine.execMovLLoadIdx n m s
  | .macL n m => Sys2Proof.Machine.execMacL n m s
  | .movLStoreDisp n m disp => Sys2Proof.Machine.execMovLStoreDisp n m disp s
  | .movBStore n m => Sys2Proof.Machine.execMovBStore n m s
  | .movWStore n m => Sys2Proof.Machine.execMovWStore n m s
  | .movLStore n m => Sys2Proof.Machine.execMovLStore n m s
  | .casL n m => Sys2Proof.Machine.execCasL n m s
  | .movBPush n m => Sys2Proof.Machine.execMovBPush n m s
  | .movWPush n m => Sys2Proof.Machine.execMovWPush n m s
  | .movLPush n m => Sys2Proof.Machine.execMovLPush n m s
  | .div0s n m => Sys2Proof.Machine.execDiv0s n m s
  | .tstR n m => Sys2Proof.Machine.execTstR n m s
  | .andR n m => Sys2Proof.Machine.execAndR n m s
  | .xorR n m => Sys2Proof.Machine.execXorR n m s
  | .orR n m => Sys2Proof.Machine.execOrR n m s
  | .cmpstr n m => Sys2Proof.Machine.execCmpstr n m s
  | .xtrct n m => Sys2Proof.Machine.execXtrct n m s
  | .muluW n m => Sys2Proof.Machine.execMuluW n m s
  | .mulsW n m => Sys2Proof.Machine.execMulsW n m s
  | .cmpeqR n m => Sys2Proof.Machine.execCmpeqR n m s
  | .cmphs n m => Sys2Proof.Machine.execCmphs n m s
  | .cmpge n m => Sys2Proof.Machine.execCmpge n m s
  | .div1 n m => Sys2Proof.Machine.execDiv1 n m s
  | .dmuluL n m => Sys2Proof.Machine.execDmuluL n m s
  | .cmphi n m => Sys2Proof.Machine.execCmphi n m s
  | .cmpgt n m => Sys2Proof.Machine.execCmpgt n m s
  | .subR n m => Sys2Proof.Machine.execSubR n m s
  | .subc n m => Sys2Proof.Machine.execSubc n m s
  | .subv n m => Sys2Proof.Machine.execSubv n m s
  | .addR n m => Sys2Proof.Machine.execAddR n m s
  | .dmulsL n m => Sys2Proof.Machine.execDmulsL n m s
  | .addc n m => Sys2Proof.Machine.execAddc n m s
  | .addv n m => Sys2Proof.Machine.execAddv n m s
  | .shll n => Sys2Proof.Machine.execShll n s
  | .dt n => Sys2Proof.Machine.execDt n s
  | .shal n => Sys2Proof.Machine.execShal n s
  | .mulr n => Sys2Proof.Machine.execMulr n s
  | .movmuLPush m => Sys2Proof.Machine.execMovmuLPush m s
  | .shlr n => Sys2Proof.Machine.execShlr n s
  | .cmppz n => Sys2Proof.Machine.execCmppz n s
  | .shar n => Sys2Proof.Machine.execShar n s
  | .clipuB n => Sys2Proof.Machine.execClipuB n s
  | .clipsB n => Sys2Proof.Machine.execClipsB n s
  | .stbank n => Sys2Proof.Machine.execStbank n s
  | .movmlLPush m => Sys2Proof.Machine.execMovmlLPush m s
  | .stslMach n => Sys2Proof.Machine.execStslMach n s
  | .stslMacl n => Sys2Proof.Machine.execStslMacl n s
  | .stslPr n => Sys2Proof.Machine.execStslPr n s
  | .stclSgr n => Sys2Proof.Machine.execStclSgr n s
  | .stclUnk42 n => Sys2Proof.Machine.execStclUnk42 n s
  | .stslFpul n => Sys2Proof.Machine.execStslFpul n s
  | .stslFpscr n => Sys2Proof.Machine.execStslFpscr n s
  | .stclSr n => Sys2Proof.Machine.execStclSr n s
  | .stclGbr n => Sys2Proof.Machine.execStclGbr n s
  | .stclVbr n => Sys2Proof.Machine.execStclVbr n s
  | .stclSsr n => Sys2Proof.Machine.execStclSsr n s
  | .stclSpc n => Sys2Proof.Machine.execStclSpc n s
  | .stclUnk53 n => Sys2Proof.Machine.execStclUnk53 n s
  | .stclBank n mb => Sys2Proof.Machine.execStclBank n mb s
  | .rotl n => Sys2Proof.Machine.execRotl n s
  | .rotcl n => Sys2Proof.Machine.execRotcl n s
  | .divu n => Sys2Proof.Machine.execDivu n s
  | .divs n => Sys2Proof.Machine.execDivs n s
  | .movmuLPop n => Sys2Proof.Machine.execMovmuLPop n s
  | .rotr n => Sys2Proof.Machine.execRotr n s
  | .cmppl n => Sys2Proof.Machine.execCmppl n s
  | .rotcr n => Sys2Proof.Machine.execRotcr n s
  | .clipuW n => Sys2Proof.Machine.execClipuW n s
  | .clipsW n => Sys2Proof.Machine.execClipsW n s
  | .ldbank m => Sys2Proof.Machine.execLdbank m s
  | .movmlLPop n => Sys2Proof.Machine.execMovmlLPop n s
  | .ldslMach m => Sys2Proof.Machine.execLdslMach m s
  | .ldslMacl m => Sys2Proof.Machine.execLdslMacl m s
  | .ldslPr m => Sys2Proof.Machine.execLdslPr m s
  | .ldclSgr m => Sys2Proof.Machine.execLdclSgr m s
  | .ldclUnk46 m => Sys2Proof.Machine.execLdclUnk46 m s
  | .ldslFpul m => Sys2Proof.Machine.execLdslFpul m s
  | .ldslFpscr m => Sys2Proof.Machine.execLdslFpscr m s
  | .ldclSr m => Sys2Proof.Machine.execLdclSr m s
  | .ldclGbr m => Sys2Proof.Machine.execLdclGbr m s
  | .ldclVbr m => Sys2Proof.Machine.execLdclVbr m s
  | .ldclSsr m => Sys2Proof.Machine.execLdclSsr m s
  | .ldclSpc m => Sys2Proof.Machine.execLdclSpc m s
  | .ldclUnk57 m => Sys2Proof.Machine.execLdclUnk57 m s
  | .ldclBank m nb => Sys2Proof.Machine.execLdclBank m nb s
  | .shll2 n => Sys2Proof.Machine.execShll2 n s
  | .shll8 n => Sys2Proof.Machine.execShll8 n s
  | .shll16 n => Sys2Proof.Machine.execShll16 n s
  | .shlr2 n => Sys2Proof.Machine.execShlr2 n s
  | .shlr8 n => Sys2Proof.Machine.execShlr8 n s
  | .shlr16 n => Sys2Proof.Machine.execShlr16 n s
  | .movuaL4 m => Sys2Proof.Machine.execMovuaL4 m s
  | .movuaLInc4 m => Sys2Proof.Machine.execMovuaLInc4 m s
  | .ldsMach m => Sys2Proof.Machine.execLdsMach m s
  | .ldsMacl m => Sys2Proof.Machine.execLdsMacl m s
  | .ldsPr m => Sys2Proof.Machine.execLdsPr m s
  | .ldcSgr m => Sys2Proof.Machine.execLdcSgr m s
  | .ldcUnk4A m => Sys2Proof.Machine.execLdcUnk4A m s
  | .ldsFpul m => Sys2Proof.Machine.execLdsFpul m s
  | .ldsFpscr m => Sys2Proof.Machine.execLdsFpscr m s
  | .jsr m => Sys2Proof.Machine.execJsr m s
  | .tasB m => Sys2Proof.Machine.execTasB m s
  | .jmp m => Sys2Proof.Machine.execJmp m s
  | .jsrN4B m => Sys2Proof.Machine.execJsrN4B m s
  | .movBStoreInc m => Sys2Proof.Machine.execMovBStoreInc m s
  | .movWStoreInc m => Sys2Proof.Machine.execMovWStoreInc m s
  | .movLStoreInc m => Sys2Proof.Machine.execMovLStoreInc m s
  | .movBLoadDec m => Sys2Proof.Machine.execMovBLoadDec m s
  | .movWLoadDec m => Sys2Proof.Machine.execMovWLoadDec m s
  | .movLLoadDec m => Sys2Proof.Machine.execMovLLoadDec m s
  | .shad n m => Sys2Proof.Machine.execShad n m s
  | .shld n m => Sys2Proof.Machine.execShld n m s
  | .ldcSr m => Sys2Proof.Machine.execLdcSr m s
  | .ldcGbr m => Sys2Proof.Machine.execLdcGbr m s
  | .ldcVbr m => Sys2Proof.Machine.execLdcVbr m s
  | .ldcSsr m => Sys2Proof.Machine.execLdcSsr m s
  | .ldcSpc m => Sys2Proof.Machine.execLdcSpc m s
  | .ldcUnk5E m => Sys2Proof.Machine.execLdcUnk5E m s
  | .ldcBank m nb => Sys2Proof.Machine.execLdcBank m nb s
  | .macW n m => Sys2Proof.Machine.execMacW n m s
  | .movLLoadDisp n m disp => Sys2Proof.Machine.execMovLLoadDisp n m disp s
  | .movBLoad n m => Sys2Proof.Machine.execMovBLoad n m s
  | .movWLoad n m => Sys2Proof.Machine.execMovWLoad n m s
  | .movLLoad n m => Sys2Proof.Machine.execMovLLoad n m s
  | .movR n m => Sys2Proof.Machine.execMovR n m s
  | .movBLoadInc n m => Sys2Proof.Machine.execMovBLoadInc n m s
  | .movWLoadInc n m => Sys2Proof.Machine.execMovWLoadInc n m s
  | .movLLoadInc n m => Sys2Proof.Machine.execMovLLoadInc n m s
  | .notR n m => Sys2Proof.Machine.execNotR n m s
  | .swapB n m => Sys2Proof.Machine.execSwapB n m s
  | .swapW n m => Sys2Proof.Machine.execSwapW n m s
  | .negc n m => Sys2Proof.Machine.execNegc n m s
  | .neg n m => Sys2Proof.Machine.execNeg n m s
  | .extuB n m => Sys2Proof.Machine.execExtuB n m s
  | .extuW n m => Sys2Proof.Machine.execExtuW n m s
  | .extsB n m => Sys2Proof.Machine.execExtsB n m s
  | .extsW n m => Sys2Proof.Machine.execExtsW n m s
  | .addI n imm => Sys2Proof.Machine.execAddI n imm s
  | .movBStoreDisp n disp => Sys2Proof.Machine.execMovBStoreDisp n disp s
  | .movWStoreDisp n disp => Sys2Proof.Machine.execMovWStoreDisp n disp s
  | .jsrN83 x => Sys2Proof.Machine.execJsrN83 x s
  | .movBLoadDisp m disp => Sys2Proof.Machine.execMovBLoadDisp m disp s
  | .movWLoadDisp m disp => Sys2Proof.Machine.execMovWLoadDisp m disp s
  | .bsetBclr x => Sys2Proof.Machine.execBsetBclr x s
  | .bstBld x => Sys2Proof.Machine.execBstBld x s
  | .cmpeqI imm => Sys2Proof.Machine.execCmpeqI imm s
  | .bt disp => Sys2Proof.Machine.execBt disp s
  | .movi24 imm => Sys2Proof.Machine.execMovi24 imm s
  | .bf disp => Sys2Proof.Machine.execBf disp s
  | .ldsh8 imm => Sys2Proof.Machine.execLdsh8 imm s
  | .bts disp => Sys2Proof.Machine.execBts disp s
  | .xpfx0 imm => Sys2Proof.Machine.execXpfx0 imm s
  | .bfs disp => Sys2Proof.Machine.execBfs disp s
  | .movWLoadPc n disp => Sys2Proof.Machine.execMovWLoadPc n disp s
  | .bra disp => Sys2Proof.Machine.execBra disp s
  | .bsr disp => Sys2Proof.Machine.execBsr disp s
  | .movBStoreGbr disp => Sys2Proof.Machine.execMovBStoreGbr disp s
  | .movWStoreGbr disp => Sys2Proof.Machine.execMovWStoreGbr disp s
  | .movLStoreGbr disp => Sys2Proof.Machine.execMovLStoreGbr disp s
  | .trapa imm => Sys2Proof.Machine.execTrapa imm s
  | .movBLoadGbr disp => Sys2Proof.Machine.execMovBLoadGbr disp s
  | .movWLoadGbr disp => Sys2Proof.Machine.execMovWLoadGbr disp s
  | .movLLoadGbr disp => Sys2Proof.Machine.execMovLLoadGbr disp s
  | .mova disp => Sys2Proof.Machine.execMova disp s
  | .tstI imm => Sys2Proof.Machine.execTstI imm s
  | .andI imm => Sys2Proof.Machine.execAndI imm s
  | .xorI imm => Sys2Proof.Machine.execXorI imm s
  | .orI imm => Sys2Proof.Machine.execOrI imm s
  | .tstBGbr imm => Sys2Proof.Machine.execTstBGbr imm s
  | .andBGbr imm => Sys2Proof.Machine.execAndBGbr imm s
  | .xorBGbr imm => Sys2Proof.Machine.execXorBGbr imm s
  | .orBGbr imm => Sys2Proof.Machine.execOrBGbr imm s
  | .movLLoadPc n disp => Sys2Proof.Machine.execMovLLoadPc n disp s
  | .movI n imm => Sys2Proof.Machine.execMovI n imm s
  | .fadd n m => Sys2Proof.Machine.execFadd n m s
  | .fsub n m => Sys2Proof.Machine.execFsub n m s
  | .fmul n m => Sys2Proof.Machine.execFmul n m s
  | .fdiv n m => Sys2Proof.Machine.execFdiv n m s
  | .fcmpeq n m => Sys2Proof.Machine.execFcmpeq n m s
  | .fcmpgt n m => Sys2Proof.Machine.execFcmpgt n m s
  | .fmovLoadIdx n m => Sys2Proof.Machine.execFmovLoadIdx n m s
  | .fmovStoreIdx n m => Sys2Proof.Machine.execFmovStoreIdx n m s
  | .fmovLoad n m => Sys2Proof.Machine.execFmovLoad n m s
  | .fmovLoadInc n m => Sys2Proof.Machine.execFmovLoadInc n m s
  | .fmovStore n m => Sys2Proof.Machine.execFmovStore n m s
  | .fmovPush n m => Sys2Proof.Machine.execFmovPush n m s
  | .fmovR n m => Sys2Proof.Machine.execFmovR n m s
  | .fsts n => Sys2Proof.Machine.execFsts n s
  | .flds m => Sys2Proof.Machine.execFlds m s
  | .float n => Sys2Proof.Machine.execFloat n s
  | .ftrc m => Sys2Proof.Machine.execFtrc m s
  | .fneg n => Sys2Proof.Machine.execFneg n s
  | .fabs n => Sys2Proof.Machine.execFabs n s
  | .fsqrt n => Sys2Proof.Machine.execFsqrt n s
  | .fsrra x => Sys2Proof.Machine.execFsrra x s
  | .fldi0 n => Sys2Proof.Machine.execFldi0 n s
  | .fldi1 n => Sys2Proof.Machine.execFldi1 n s
  | .fcnvsd n => Sys2Proof.Machine.execFcnvsd n s
  | .fcnvds m => Sys2Proof.Machine.execFcnvds m s
  | .fipr x => Sys2Proof.Machine.execFipr x s
  | .fmac n m => Sys2Proof.Machine.execFmac n m s
  | .resFF x y => Sys2Proof.Machine.execResFF x y s
  | .clrt => Sys2Proof.Machine.execClrt s
  | .sett => Sys2Proof.Machine.execSett s
  | .clrmac => Sys2Proof.Machine.execClrmac s
  | .ldtlb => Sys2Proof.Machine.execLdtlb s
  | .clrs => Sys2Proof.Machine.execClrs s
  | .sets => Sys2Proof.Machine.execSets s
  | .nott => Sys2Proof.Machine.execNott s
  | .nop => Sys2Proof.Machine.execNop s
  | .div0u => Sys2Proof.Machine.execDiv0u s
  | .rts => Sys2Proof.Machine.execRts s
  | .sleep => Sys2Proof.Machine.execSleep s
  | .rte => Sys2Proof.Machine.execRte s
  | .brk => Sys2Proof.Machine.execBrk s
  | .resbank => Sys2Proof.Machine.execResbank s
  | .rtsN => Sys2Proof.Machine.execRtsN s
  | .synco => Sys2Proof.Machine.execSynco s
  | .fscaF0 => Sys2Proof.Machine.execFscaF0 s
  | .ftrv2F1 => Sys2Proof.Machine.execFtrv2F1 s
  | .fscaF2 => Sys2Proof.Machine.execFscaF2 s
  | .fschg => Sys2Proof.Machine.execFschg s
  | .fscaF4 => Sys2Proof.Machine.execFscaF4 s
  | .ftrv2F5 => Sys2Proof.Machine.execFtrv2F5 s
  | .fscaF6 => Sys2Proof.Machine.execFscaF6 s
  | .fpchg => Sys2Proof.Machine.execFpchg s
  | .fscaF8 => Sys2Proof.Machine.execFscaF8 s
  | .ftrv2F9 => Sys2Proof.Machine.execFtrv2F9 s
  | .fscaFA => Sys2Proof.Machine.execFscaFA s
  | .frchg => Sys2Proof.Machine.execFrchg s
  | .fscaFC => Sys2Proof.Machine.execFscaFC s
  | .ftrv2FD => Sys2Proof.Machine.execFtrv2FD s
  | .fscaFE => Sys2Proof.Machine.execFscaFE s
  | .movi20 n imm => Sys2Proof.Machine.execMovi20 n imm s
  | .movi20s n imm => Sys2Proof.Machine.execMovi20s n imm s
  | .movBStoreD12 n m disp => Sys2Proof.Machine.execMovBStoreD12 n m disp s
  | .movWStoreD12 n m disp => Sys2Proof.Machine.execMovWStoreD12 n m disp s
  | .movLStoreD12 n m disp => Sys2Proof.Machine.execMovLStoreD12 n m disp s
  | .fmovStoreD12 n m disp => Sys2Proof.Machine.execFmovStoreD12 n m disp s
  | .movBLoadD12 n m disp => Sys2Proof.Machine.execMovBLoadD12 n m disp s
  | .movWLoadD12 n m disp => Sys2Proof.Machine.execMovWLoadD12 n m disp s
  | .movLLoadD12 n m disp => Sys2Proof.Machine.execMovLLoadD12 n m disp s
  | .fmovLoadD12 n m disp => Sys2Proof.Machine.execFmovLoadD12 n m disp s
  | .movuBLoadD12 n m disp => Sys2Proof.Machine.execMovuBLoadD12 n m disp s
  | .movuWLoadD12 n m disp => Sys2Proof.Machine.execMovuWLoadD12 n m disp s
  | .bclrB n imm disp => Sys2Proof.Machine.execBclrB n imm disp s
  | .bsetB n imm disp => Sys2Proof.Machine.execBsetB n imm disp s
  | .bstB n imm disp => Sys2Proof.Machine.execBstB n imm disp s
  | .bldB n imm disp => Sys2Proof.Machine.execBldB n imm disp s
  | .bandB n imm disp => Sys2Proof.Machine.execBandB n imm disp s
  | .borB n imm disp => Sys2Proof.Machine.execBorB n imm disp s
  | .bxorB n imm disp => Sys2Proof.Machine.execBxorB n imm disp s
  | .bldnotB n imm disp => Sys2Proof.Machine.execBldnotB n imm disp s
  | .bandnotB n imm disp => Sys2Proof.Machine.execBandnotB n imm disp s
  | .bornotB n imm disp => Sys2Proof.Machine.execBornotB n imm disp s
  | .cmpbeq n m disp => Sys2Proof.Machine.execCmpbeq n m disp s
  | .cmpbne n m disp => Sys2Proof.Machine.execCmpbne n m disp s
  | .cmpbge n m disp => Sys2Proof.Machine.execCmpbge n m disp s
  | .cmpblt n m disp => Sys2Proof.Machine.execCmpblt n m disp s
  | .cmpbgt n m disp => Sys2Proof.Machine.execCmpbgt n m disp s
  | .cmpble n m disp => Sys2Proof.Machine.execCmpble n m disp s
  | .shadImm n m imm => Sys2Proof.Machine.execShadImm n m imm s
  | .shldImm n m imm => Sys2Proof.Machine.execShldImm n m imm s

end Sys2Proof.Machine
end

