-- ==== Sys2Proof/Machine/Fetch.lean ====
section
/-! DEFINITION. What a step does around an instruction: the acceptance of interrupts (60_exceptions.md R450 to
R452), the fetch of the instruction's words (20_memory.md R97, 48_ext_superops_32bit.md R410), the step of a
sleeping agent (R465), the launch of a run (70_reset_and_hazards.md R480), and the placing of an instruction
where the next step fetches it. -/

namespace Sys2Proof.Machine

/-- The level of the request accepted at this step boundary, if any (R451). -/
def State.accepted (s : State) : Option (BitVec 4) :=
  match s.irqs with
  | some level :: _ =>
    if !s.bl && s.slot.isNone && s.im.ult level then some level else none
  | _ => none

/-- The state once this step boundary's presentation by `IntSource` is past (R450; log 29). -/
def State.pastBoundary (s : State) : State := { s with irqs := s.irqs.tail }

/-- The mode that the region check of a fetch uses: the old one in the delay slot of `RTE` (R74, R97, R191). -/
def State.fetchMd (s : State) : Bool :=
  match s.slot with
  | some t => t.rteMd.getD s.md
  | none => s.md

/-- What a decoded instruction, or a word that is none, does (R150). -/
def runDecoded (d : Except Reject Instr) (s : State) : Out :=
  match d with
  | .ok i => exec i s
  | .error _ => reservedEncoding s

/-- Fetch, decode, and the instruction (00_scope.md R16 (3) to (7)). A stop of either fetch saves the PC of
the instruction (R447; log 31). -/
def runInstruction (s : State) : Out :=
  orStop s (s.fetch s.fetchMd s.pc) fun a =>
    if isTwoWord a.value then
      orStop a.state (a.state.fetch s.fetchMd (s.pc + 2)) fun b => runDecoded (decode a.value b.value) b.state
    else runDecoded (decode a.value 0) a.state

/-- The step of a sleeping agent that accepts nothing: it waits, and is stuck once no request will ever come
(R465; log 30). -/
def runAsleep (s : State) : Out :=
  match s.irqs with
  | [] => .fault .asleepForever
  | _ :: _ => .next s.pastBoundary

/-- The memory that an image leaves: a byte for each location it gives, the first of its entries for a location
counting, in the canonical form (10_state.md R80; log 39). -/
def loadImage : List (Word × Byte) → List Host.Cell
  | [] => []
  | (a, v) :: rest => memPut (loadImage rest) a.toNat v

/-- What `IntSource` presents from reset on: nothing at the first boundary, since none is pending at reset, then
`later` (R80, R450; log 29). -/
def requestsFromReset (later : List (Option (BitVec 4))) : List (Option (BitVec 4)) :=
  match later with
  | [] => []
  | _ :: _ => none :: later

/-- The state in which a run begins: the RESET record, the parameters, the loaded image, and what `IntSource` presents
after the first step boundary (R80, R480, R450; logs 29, 39). -/
def State.launch (r : ResetValues) (cfg : Config) (image : List (Word × Byte))
    (later : List (Option (BitVec 4))) : State :=
  { State.resetWith r cfg with mem := loadImage image, irqs := requestsFromReset later }

/-- Remove a location from a list. -/
def dropLoc (l : List Nat) (a : Nat) : List Nat := l.filter (· != a)

/-- Place two bytes where a fetch from `a` reads them, as part of the loaded image (log 39). -/
def State.placeWord (s : State) (a : Word) (w : Half) : State :=
  match s.locate .fetch s.fetchMd a with
  | .ok (.mem loc) =>
    { s with
      mem := memPutAll s.mem loc (bytesOfWord s.cfg.endian w)
      stored := dropLoc (dropLoc s.stored loc) (loc + 1) }
  | .ok (.special _) => s
  | .error _ => s

/-- Make the coming step run an instruction: awake, and with no request accepted at its boundary (log 39). -/
def State.aboutToRun (s : State) : State :=
  { s with
    asleep := false
    irqs := if s.accepted.isSome then none :: s.irqs.tail else s.irqs }

end Sys2Proof.Machine
end

