-- ==== Sys2Proof/Machine/Step.lean ====
section
/-! DEFINITION. One step (00_scope.md R16), and the placing of an instruction for the host. -/

namespace Sys2Proof.Machine

/-- One step of the agent: an accepted interrupt is taken, a sleeping agent waits, any other runs the
instruction at the PC (R16, 60_exceptions.md R440, R451, R465). -/
def step (s : State) : Host.Outcome State Fault Refusal :=
  match s.accepted with
  | some level => .next (trapEntry (.interrupt level) s.pastBoundary)
  | none => if s.asleep then runAsleep s else runInstruction s.pastBoundary

/-- `s` with the instruction whose bits are `w` (bit 0 the first word's, bits from `nbits` up 0) where the
next step fetches (log 39). -/
def State.withFetchWord (s : State) (nbits w : Nat) : State :=
  ((s.aboutToRun.placeWord s.pc (BitVec.ofNat 16 (w % 2 ^ nbits))).placeWord (s.pc + 2)
    (BitVec.ofNat 16 (w % 2 ^ nbits / 2 ^ 16)))

end Sys2Proof.Machine
end

