-- ==== Sys2Proof/Safety.lean ====
section
/-! DEFINITION. The terms that statements use: the invariant of every reachable state, the classes of
instructions that the spec lists, the data access an instruction makes, and what an instruction leaves as it was. -/

namespace Sys2Proof.Machine

/-! ### The invariant -/

/-- SR holds none of the bits the spec does not list (10_state.md R52). -/
def State.srListed (s : State) : Prop := s.sr &&& ~~~Config.srMask = 0

/-- FPSCR holds none of the bits the spec does not list (R66). -/
def State.fpscrListed (s : State) : Prop := s.fpscr &&& ~~~Config.fpscrMask = 0

/-- What every step keeps: memory and the list of stored locations are in their canonical forms, SR and FPSCR
hold listed bits only, a sleeping agent has no delay slot pending, a pending slot of `RTE` was left by
supervisor mode, and where region 7 has no handler none has seen an access. -/
structure State.Inv (s : State) : Prop where
  mem : Memory.wf s.mem = true
  stored : locsFrom 0 s.stored = true
  sr : s.srListed
  fpscr : s.fpscrListed
  asleep : s.asleep = true → s.slot = none
  rteMd : ∀ t, s.slot = some t → t.rteMd ≠ some false
  special : s.cfg.special = .absent → s.special = []

/-- The next step completes: it neither faults nor is refused. -/
def State.CanStep (s : State) : Prop := ∃ t, step s = .next t

/-! ### Classes of instructions that the spec lists -/

/-- The privileged instructions (60_exceptions.md R461). -/
def isPrivileged : Instr → Bool
  | .stcSr _ => true
  | .stcVbr _ => true
  | .stcSsr _ => true
  | .stcSpc _ => true
  | .stcSgr _ => true
  | .stcBank _ _ => true
  | .stclSr _ => true
  | .stclVbr _ => true
  | .stclSsr _ => true
  | .stclSpc _ => true
  | .stclSgr _ => true
  | .stclBank _ _ => true
  | .ldcSr _ => true
  | .ldcVbr _ => true
  | .ldcSsr _ => true
  | .ldcSpc _ => true
  | .ldcSgr _ => true
  | .ldcBank _ _ => true
  | .ldclSr _ => true
  | .ldclVbr _ => true
  | .ldclSsr _ => true
  | .ldclSpc _ => true
  | .ldclSgr _ => true
  | .ldclBank _ _ => true
  | .rte => true
  | .sleep => true
  | _ => false

/-- The instructions not allowed in a delay slot (R436). -/
def bannedInSlot : Instr → Bool
  | .bra _ => true
  | .bsr _ => true
  | .bsaf _ => true
  | .bsrf _ => true
  | .jmp _ => true
  | .jsr _ => true
  | .rts => true
  | .rte => true
  | .bt _ => true
  | .bf _ => true
  | .bts _ => true
  | .bfs _ => true
  | .movWLoadPc _ _ => true
  | .movLLoadPc _ _ => true
  | .mova _ => true
  | .trapa _ => true
  | .brk => true
  | .movi24 _ => true
  | _ => false

/-- The FPU instructions (47_groupF_fpu.md R365). -/
def isFpu : Instr → Bool
  | .fadd _ _ => true
  | .fsub _ _ => true
  | .fmul _ _ => true
  | .fdiv _ _ => true
  | .fcmpeq _ _ => true
  | .fcmpgt _ _ => true
  | .fmovLoadIdx _ _ => true
  | .fmovStoreIdx _ _ => true
  | .fmovLoad _ _ => true
  | .fmovLoadInc _ _ => true
  | .fmovStore _ _ => true
  | .fmovPush _ _ => true
  | .fmovR _ _ => true
  | .fsts _ => true
  | .flds _ => true
  | .float _ => true
  | .ftrc _ => true
  | .fneg _ => true
  | .fabs _ => true
  | .fsqrt _ => true
  | .fldi0 _ => true
  | .fldi1 _ => true
  | .fcnvsd _ => true
  | .fcnvds _ => true
  | .fschg => true
  | .fmac _ _ => true
  | .stsFpul _ => true
  | .stsFpscr _ => true
  | .stslFpul _ => true
  | .stslFpscr _ => true
  | .ldslFpul _ => true
  | .ldslFpscr _ => true
  | .ldsFpul _ => true
  | .ldsFpscr _ => true
  | _ => false

/-- The instructions that may write T (10_state.md R43), and the super-ops with one of them. -/
def writesT : Instr → Bool
  | .clrt => true
  | .sett => true
  | .div0u => true
  | .div0s _ _ => true
  | .div1 _ _ => true
  | .tstR _ _ => true
  | .tstI _ => true
  | .tstBGbr _ => true
  | .cmpeqR _ _ => true
  | .cmpeqI _ => true
  | .cmphs _ _ => true
  | .cmpge _ _ => true
  | .cmphi _ _ => true
  | .cmpgt _ _ => true
  | .cmppz _ => true
  | .cmppl _ => true
  | .cmpstr _ _ => true
  | .addc _ _ => true
  | .addv _ _ => true
  | .subc _ _ => true
  | .subv _ _ => true
  | .negc _ _ => true
  | .dt _ => true
  | .shll _ => true
  | .shal _ => true
  | .shlr _ => true
  | .shar _ => true
  | .rotl _ => true
  | .rotr _ => true
  | .rotcl _ => true
  | .rotcr _ => true
  | .tasB _ => true
  | .casL _ _ => true
  | .fcmpeq _ _ => true
  | .fcmpgt _ _ => true
  | .ldcSr _ => true
  | .ldclSr _ => true
  | .rte => true
  | .cmpbeq _ _ _ => true
  | .cmpbne _ _ _ => true
  | .cmpbge _ _ _ => true
  | .cmpblt _ _ _ => true
  | .cmpbgt _ _ _ => true
  | .cmpble _ _ _ => true
  | _ => false

/-- The whole-SR writes (R42). -/
def writesWholeSr : Instr → Bool
  | .ldcSr _ => true
  | .ldclSr _ => true
  | .rte => true
  | _ => false

/-- The instructions whose rule assigns the PC (R38), trap and breakpoint included. -/
def assignsPc : Instr → Bool
  | .bra _ => true
  | .bsr _ => true
  | .bsaf _ => true
  | .bsrf _ => true
  | .jmp _ => true
  | .jsr _ => true
  | .rts => true
  | .rte => true
  | .bt _ => true
  | .bf _ => true
  | .bts _ => true
  | .bfs _ => true
  | .movi24 _ => true
  | .trapa _ => true
  | .brk => true
  | _ => false

/-- The rows that are reserved encodings (30_encoding.md R150). -/
def isReserved (i : Instr) : Bool :=
  match i.status with
  | .implemented => false
  | .notImplemented => true
  | .refusedPrefix => false
  | .reservedColumn => true
  | .reserved32 => true
  | .superOp => false

/-- The checks that come before an instruction's own operation all pass: it is not banned where it stands, and
the mode and SR.FD let it run (40_group0_system_indexed.md R160). -/
structure Admitted (i : Instr) (s : State) : Prop where
  slot : bannedInSlot i = true → s.slot = none
  mode : isPrivileged i = true → s.md = true
  fpu : isFpu i = true → s.fd = false

/-- A synchronous event raised now is taken: SR.BL = 0 (R457) and no delay slot of `RTE` is pending (R447). -/
def State.TakesEvents (s : State) : Prop := s.bl = false ∧ s.inRteSlot = false

/-- `t` is `s` after the entry of a trap for an event that is taken; the handler of region 7 may have seen reads that
came before the event (60_exceptions.md R432; log 45). -/
def EntersTrap (s t : State) : Prop :=
  ∃ (e : Event) (seen : List SpecialAccess), t = trapEntry e { s with special := seen } ∧ s.TakesEvents

/-- The FPU instructions that round run: FPNUM_IEEE refuses them with RM = 2 or 3 (47_groupF_fpu.md R366; log 15). -/
def State.RoundingRuns (s : State) : Prop := s.cfg.fpnum = .ieee → s.rm = 0 ∨ s.rm = 1

/-! ### Data accesses -/

/-- A data access: its kind, its effective address, and its width, `none` for the 8 bytes of a pair. -/
structure DataAccess where
  kind : Access
  width : Option Size
  ea : Word
  deriving DecidableEq, Repr

/-- The alignment that an access needs (20_memory.md R92). -/
def DataAccess.bytes (d : DataAccess) : Nat :=
  match d.width with
  | some sz => sz.bytes
  | none => 8

/-- The width of an `FMOV` memory access (47_groupF_fpu.md R369). -/
def State.fmovWidth (s : State) : Option Size := if s.sz then none else some .l

/-- The first data access of an instruction, at the address its rule computes. A read-modify-write's is the
write, whose checks come first (60_exceptions.md R440; log 37). -/
def dataAccess (i : Instr) (s : State) : Option DataAccess :=
  match i with
  | .movBStoreIdx n _ => some ⟨.write, some .b, s.eaIndexed n⟩
  | .movWStoreIdx n _ => some ⟨.write, some .w, s.eaIndexed n⟩
  | .movLStoreIdx n _ => some ⟨.write, some .l, s.eaIndexed n⟩
  | .movBLoadIdx _ m => some ⟨.read, some .b, s.eaIndexed m⟩
  | .movWLoadIdx _ m => some ⟨.read, some .w, s.eaIndexed m⟩
  | .movLLoadIdx _ m => some ⟨.read, some .l, s.eaIndexed m⟩
  | .movcaL n => some ⟨.write, some .l, s.r n⟩
  | .macL n _ => some ⟨.read, some .l, s.r n⟩
  | .macW n _ => some ⟨.read, some .w, s.r n⟩
  | .movLStoreDisp n _ disp => some ⟨.write, some .l, s.eaDisp n disp 4⟩
  | .movBStore n _ => some ⟨.write, some .b, s.r n⟩
  | .movWStore n _ => some ⟨.write, some .w, s.r n⟩
  | .movLStore n _ => some ⟨.write, some .l, s.r n⟩
  | .casL _ _ => some ⟨.write, some .l, s.r 0⟩
  | .movBPush n _ => some ⟨.write, some .b, s.r n - 1⟩
  | .movWPush n _ => some ⟨.write, some .w, s.r n - 2⟩
  | .movLPush n _ => some ⟨.write, some .l, s.r n - 4⟩
  | .stslMach n => some ⟨.write, some .l, s.r n - 4⟩
  | .stslMacl n => some ⟨.write, some .l, s.r n - 4⟩
  | .stslPr n => some ⟨.write, some .l, s.r n - 4⟩
  | .stclSgr n => some ⟨.write, some .l, s.r n - 4⟩
  | .stslFpul n => some ⟨.write, some .l, s.r n - 4⟩
  | .stslFpscr n => some ⟨.write, some .l, s.r n - 4⟩
  | .stclSr n => some ⟨.write, some .l, s.r n - 4⟩
  | .stclGbr n => some ⟨.write, some .l, s.r n - 4⟩
  | .stclVbr n => some ⟨.write, some .l, s.r n - 4⟩
  | .stclSsr n => some ⟨.write, some .l, s.r n - 4⟩
  | .stclSpc n => some ⟨.write, some .l, s.r n - 4⟩
  | .stclBank n _ => some ⟨.write, some .l, s.r n - 4⟩
  | .ldslMach m => some ⟨.read, some .l, s.r m⟩
  | .ldslMacl m => some ⟨.read, some .l, s.r m⟩
  | .ldslPr m => some ⟨.read, some .l, s.r m⟩
  | .ldclSgr m => some ⟨.read, some .l, s.r m⟩
  | .ldslFpul m => some ⟨.read, some .l, s.r m⟩
  | .ldslFpscr m => some ⟨.read, some .l, s.r m⟩
  | .ldclSr m => some ⟨.read, some .l, s.r m⟩
  | .ldclGbr m => some ⟨.read, some .l, s.r m⟩
  | .ldclVbr m => some ⟨.read, some .l, s.r m⟩
  | .ldclSsr m => some ⟨.read, some .l, s.r m⟩
  | .ldclSpc m => some ⟨.read, some .l, s.r m⟩
  | .ldclBank m _ => some ⟨.read, some .l, s.r m⟩
  | .tasB m => some ⟨.write, some .b, s.r m⟩
  | .movLLoadDisp _ m disp => some ⟨.read, some .l, s.eaDisp m disp 4⟩
  | .movBLoad _ m => some ⟨.read, some .b, s.r m⟩
  | .movWLoad _ m => some ⟨.read, some .w, s.r m⟩
  | .movLLoad _ m => some ⟨.read, some .l, s.r m⟩
  | .movBLoadInc _ m => some ⟨.read, some .b, s.r m⟩
  | .movWLoadInc _ m => some ⟨.read, some .w, s.r m⟩
  | .movLLoadInc _ m => some ⟨.read, some .l, s.r m⟩
  | .movBStoreDisp n disp => some ⟨.write, some .b, s.eaDisp n disp 1⟩
  | .movWStoreDisp n disp => some ⟨.write, some .w, s.eaDisp n disp 2⟩
  | .movBLoadDisp m disp => some ⟨.read, some .b, s.eaDisp m disp 1⟩
  | .movWLoadDisp m disp => some ⟨.read, some .w, s.eaDisp m disp 2⟩
  | .movWLoadPc _ disp => some ⟨.read, some .w, s.eaPcWord disp⟩
  | .movLLoadPc _ disp => some ⟨.read, some .l, s.eaPcLong disp⟩
  | .movBStoreGbr disp => some ⟨.write, some .b, s.eaGbr disp 1⟩
  | .movWStoreGbr disp => some ⟨.write, some .w, s.eaGbr disp 2⟩
  | .movLStoreGbr disp => some ⟨.write, some .l, s.eaGbr disp 4⟩
  | .movBLoadGbr disp => some ⟨.read, some .b, s.eaGbr disp 1⟩
  | .movWLoadGbr disp => some ⟨.read, some .w, s.eaGbr disp 2⟩
  | .movLLoadGbr disp => some ⟨.read, some .l, s.eaGbr disp 4⟩
  | .tstBGbr _ => some ⟨.read, some .b, s.eaGbrIndexed⟩
  | .andBGbr _ => some ⟨.write, some .b, s.eaGbrIndexed⟩
  | .xorBGbr _ => some ⟨.write, some .b, s.eaGbrIndexed⟩
  | .orBGbr _ => some ⟨.write, some .b, s.eaGbrIndexed⟩
  | .fmovLoadIdx _ m => some ⟨.read, s.fmovWidth, s.eaIndexed m⟩
  | .fmovStoreIdx n _ => some ⟨.write, s.fmovWidth, s.eaIndexed n⟩
  | .fmovLoad _ m => some ⟨.read, s.fmovWidth, s.r m⟩
  | .fmovLoadInc _ m => some ⟨.read, s.fmovWidth, s.r m⟩
  | .fmovStore n _ => some ⟨.write, s.fmovWidth, s.r n⟩
  | .fmovPush n _ => some ⟨.write, s.fmovWidth, s.r n - s.fmovBytes⟩
  | _ => none

/-- What the checks of an access stop it with, if they do. -/
def State.Stops (s : State) (d : DataAccess) (x : Stop) : Prop :=
  match d.width with
  | some sz => s.check d.kind sz d.ea = .error x
  | none => s.checkPair d.kind d.ea = .error x

/-- An instruction that a stop ends has done nothing in `s`: an event enters the trap, and a case that has no step
is refused (60_exceptions.md R432, R435). -/
def StoppedBy (x : Stop) (s : State) (out : Out) : Prop :=
  match x with
  | .event e => out = .next (trapEntry e s)
  | .refuse r => out = .refused r

/-- An instruction whose last check in `s` is `x` completes if that passes, and has otherwise done nothing. -/
def Follows {α : Type} (x : Except Stop α) (s : State) (out : Out) : Prop :=
  match x with
  | .ok _ => ∃ t, out = .next t
  | .error e => StoppedBy e s out

/-- The stretch of memory, a location and a length, at a place: none in region 7. -/
def Place.span (p : Place) (n : Nat) : List (Nat × Nat) :=
  match p with
  | .mem loc => [(loc, n)]
  | .special _ => []

/-- The stretches of memory that an instruction stores to in a state. -/
def storedSpans (i : Instr) (s : State) : List (Nat × Nat) :=
  match dataAccess i s with
  | some ⟨.write, some sz, ea⟩ =>
    match s.check .write sz ea with
    | .ok p => p.span sz.bytes
    | .error _ => []
  | some ⟨.write, none, ea⟩ =>
    match s.checkPair .write ea with
    | .ok (hi, lo) => hi.span 4 ++ lo.span 4
    | .error _ => []
  | _ => []

/-- Where a translated access goes, by the frame's number, or the event it raises instead
(20_memory.md R111, R112; R446). -/
def mmuAnswer (ea : Word) (k : Access) : Translation → Except Stop Place
  | .frame f => .ok (.mem (f.toNat * 4096 + ea.toNat % 4096))
  | .miss => .error (.event (.mmuFault k ea true))
  | .fault => .error (.event (.mmuFault k ea false))

/-! ### What an instruction leaves as it was -/

/-- The PC after an instruction that does not assign it (10_state.md R38, R40). -/
def State.nextPc (s : State) : Word :=
  match s.slot with
  | some t => t.target
  | none => s.pc + 2

/-- The control registers are as before. -/
structure SameControl (s t : State) : Prop where
  gbr : t.gbr = s.gbr
  vbr : t.vbr = s.vbr
  ssr : t.ssr = s.ssr
  spc : t.spc = s.spc
  sgr : t.sgr = s.sgr
  dbr : t.dbr = s.dbr

/-- The accumulator and PR are as before. -/
structure SameAcc (s t : State) : Prop where
  mach : t.mach = s.mach
  macl : t.macl = s.macl
  pr : t.pr = s.pr

/-- The FPU registers of both banks, FPSCR and FPUL are as before. -/
structure SameFpu (s t : State) : Prop where
  fpscr : t.fpscr = s.fpscr
  fpul : t.fpul = s.fpul
  fb0 : t.fb0 = s.fb0
  fb1 : t.fb1 = s.fb1

/-- Every byte of memory reads as before, and nothing counts as newly stored. -/
structure SameMem (s t : State) : Prop where
  byte : ∀ a, memGet t.mem a = memGet s.mem a
  stored : t.stored = s.stored

/-- The hidden state and the parameters are as before. -/
structure SameHidden (s t : State) : Prop where
  irqs : t.irqs = s.irqs
  asleep : t.asleep = s.asleep
  special : t.special = s.special
  freeCtr : t.freeCtr = s.freeCtr
  cfg : t.cfg = s.cfg

/-- Every general register but those listed, and every register of the other bank, is as before. -/
structure SameRegs (s t : State) (but : List Reg) : Prop where
  r : ∀ j, j ∉ but → t.r j = s.r j
  other : ∀ k, t.other k = s.other k

/-- Every bit of SR but those listed is as before. -/
def SameSr (s t : State) (but : List Nat) : Prop := ∀ i, i ∉ but → t.sr.getLsbD i = s.sr.getLsbD i

/-- The instruction is over: the PC is at the next instruction, or at the target in a delay slot, and no delay
slot is pending. -/
structure Moved (s t : State) : Prop where
  pc : t.pc = s.nextPc
  slot : t.slot = none

/-- Everything but the listed general registers and SR bits, the accumulator, PR, the FPU and memory. -/
structure Frame (s t : State) (regs : List Reg) (bits : List Nat) : Prop where
  regs : SameRegs s t regs
  sr : SameSr s t bits
  control : SameControl s t
  hidden : SameHidden s t
  moved : Moved s t

/-- `t` is `s` with `R[n] = v` after an instruction that writes nothing else. -/
structure WritesReg (s t : State) (n : Reg) (v : Word) : Prop where
  value : t.r n = v
  frame : Frame s t [n] []
  acc : SameAcc s t
  fpu : SameFpu s t
  mem : SameMem s t

/-- `t` is `s` with `R[n] = v` and `T = b` after an instruction that writes nothing else. -/
structure WritesRegT (s t : State) (n : Reg) (v : Word) (b : Bool) : Prop where
  value : t.r n = v
  flag : t.t = b
  frame : Frame s t [n] [0]
  acc : SameAcc s t
  fpu : SameFpu s t
  mem : SameMem s t

/-- `t` is `s` with `T = b` after an instruction that writes nothing else. -/
structure WritesFlag (s t : State) (b : Bool) : Prop where
  flag : t.t = b
  frame : Frame s t [] [0]
  acc : SameAcc s t
  fpu : SameFpu s t
  mem : SameMem s t

/-- `t` is `s` with these MACH and MACL after an instruction that writes nothing else. -/
structure WritesMac (s t : State) (hi lo : Word) : Prop where
  mach : t.mach = hi
  macl : t.macl = lo
  pr : t.pr = s.pr
  frame : Frame s t [] []
  fpu : SameFpu s t
  mem : SameMem s t

/-- `t` is `s` after a store of the low bits of `v` at the place `p`, with the listed registers open: at a location of
memory the stored bytes load as the value did, every other byte reads as before, the locations stored to are noted
(20_memory.md R118), and the handler of region 7 has seen the write if it was to it. -/
structure Stores (s t : State) (sz : Size) (p : Place) (v : Word) (regs : List Reg) (bits : List Nat) :
    Prop where
  value : ∀ loc, p = .mem loc → loadAt s.cfg.endianLocal sz t.mem loc = sz.cut v
  outside : ∀ a, (∀ loc, p = .mem loc → a < loc ∨ loc + sz.bytes ≤ a) → memGet t.mem a = memGet s.mem a
  stored : ∀ a, a ∈ t.stored ↔ (p.loc ≤ a ∧ a < p.loc + sz.bytes) ∨ a ∈ s.stored
  frame : Frame (s.noteWrite sz v p) t regs bits
  acc : SameAcc s t
  fpu : SameFpu s t

/-- `t` is `s` after the two longs of `v` were stored at the places `hi` and `lo`, as `Stores` says of one. -/
structure StoresPair (s t : State) (hi lo : Place) (v : Word × Word) (regs : List Reg) : Prop where
  first : ∀ loc, hi = .mem loc → loadAt s.cfg.endianLocal .l t.mem loc = v.1
  second : ∀ loc, lo = .mem loc → loadAt s.cfg.endianLocal .l t.mem loc = v.2
  outside : ∀ a, (∀ loc, hi = .mem loc → a < loc ∨ loc + 4 ≤ a) → (∀ loc, lo = .mem loc → a < loc ∨ loc + 4 ≤ a) →
    memGet t.mem a = memGet s.mem a
  stored : ∀ a, a ∈ t.stored ↔
    (hi.loc ≤ a ∧ a < hi.loc + 4) ∨ (lo.loc ≤ a ∧ a < lo.loc + 4) ∨ a ∈ s.stored
  frame : Frame ((s.noteWrite .l v.1 hi).noteWrite .l v.2 lo) t regs []
  acc : SameAcc s t
  fpu : SameFpu s t

/-- The instruction answers a next state, and that state is as `P` says. -/
def Completes (i : Instr) (s : State) (P : State → Prop) : Prop := ∃ t, exec i s = .next t ∧ P t

/-! ### Results: what an instruction completes with -/

/-- The word of these four nibbles, most significant first, is this instruction. -/
def Reads (a b c d : Nibble) (i : Instr) : Prop := decode (word4 a b c d) 0 = .ok i

/-- It completes, having written `R[n] = v` and nothing else. -/
def RegResult (i : Instr) (s : State) (n : Reg) (v : Word) : Prop := Completes i s fun t => WritesReg s t n v

/-- It completes, having written `R[n] = v` and `T = b` and nothing else. -/
def RegTResult (i : Instr) (s : State) (n : Reg) (v : Word) (b : Bool) : Prop :=
  Completes i s fun t => WritesRegT s t n v b

/-- It completes, having written `T = b` and nothing else. -/
def FlagResult (i : Instr) (s : State) (b : Bool) : Prop := Completes i s fun t => WritesFlag s t b

/-- It completes, having written MACH and MACL and nothing else. -/
def MacResult (i : Instr) (s : State) (hi lo : Word) : Prop := Completes i s fun t => WritesMac s t hi lo

/-- Where the store is allowed, it completes, having stored the low bits of `v` at `ea` and nothing else. -/
def StoreResult (i : Instr) (s : State) (sz : Size) (ea v : Word) : Prop :=
  ∀ p, s.check .write sz ea = .ok p → Completes i s fun t => Stores s t sz p v [] []

/-- Where the store is allowed, it completes, having stored `v` at `R[n]` less the width and left that address
in `R[n]`, and nothing else. -/
def PushResult (i : Instr) (s : State) (sz : Size) (n : Reg) (v : Word) : Prop :=
  ∀ p, s.check .write sz (s.r n - BitVec.ofNat 32 sz.bytes) = .ok p →
    Completes i s fun t => t.r n = s.r n - BitVec.ofNat 32 sz.bytes ∧ Stores s t sz p v [n] []

/-- Where the load is allowed, it completes, having written the loaded value, extended by `ext`, to `R[n]` and
nothing else; the handler of region 7 has seen the read if it was from it. -/
def LoadResult (i : Instr) (s : State) (sz : Size) (ext : Word → Word) (ea : Word) (n : Reg) : Prop :=
  ∀ p, s.check .read sz ea = .ok p →
    Completes i s fun t => WritesReg (s.noteRead sz p) t n (ext (s.valueAt s.cfg.endianLocal sz p))

/-- Where the load is allowed, it completes, having written the loaded value to `R[n]`, the stepped address to
`R[m]` when that is another register, and nothing else. -/
def LoadIncResult (i : Instr) (s : State) (sz : Size) (ext : Word → Word) (n m : Reg) : Prop :=
  ∀ p, s.check .read sz (s.r m) = .ok p →
    Completes i s fun t =>
      t.r n = ext (s.valueAt s.cfg.endianLocal sz p)
      ∧ (m ≠ n → t.r m = s.r m + BitVec.ofNat 32 sz.bytes)
      ∧ Frame (s.noteRead sz p) t [n, m] [] ∧ SameAcc s t ∧ SameFpu s t ∧ SameMem s t

/-- Where the load is allowed, its next state is `s` with `R[m]` stepped under the old bank mapping, then
changed by `put` of the loaded long (43_group4_shift_sysreg.md R299). -/
def PopResult (i : Instr) (s : State) (m : Reg) (put : State → Word → State) : Prop :=
  ∀ p, s.check .read .l (s.r m) = .ok p →
    exec i s = .next
      (put ((s.noteRead .l p).setR m (s.r m + 4)).advance (s.valueAt s.cfg.endianLocal .l p))

/-- The signed partial remainder that Q and a register hold between the steps of an unsigned division
(42_group3_compare_arith.md R224). -/
def State.partialRemainder (s : State) (n : Reg) : Int := (s.r n).toNat - 2 ^ 32 * (s.q.toNat : Int)

/-- Everything but the listed FPU registers, each a physical bank and a number, and the listed general
registers. -/
structure FpuFrame (s t : State) (cells : List (Bool × FReg)) (regs : List Reg) : Prop where
  rest : ∀ b g, (b, g) ∉ cells → t.fb b g = s.fb b g
  fpscr : t.fpscr = s.fpscr
  fpul : t.fpul = s.fpul
  frame : Frame s t regs []
  acc : SameAcc s t
  mem : SameMem s t

/-- It completes, having written `FR[f] = v` and nothing else. -/
def FrResult (i : Instr) (s : State) (f : FReg) (v : Word) : Prop :=
  Completes i s fun t => t.fr f = v ∧ FpuFrame s t [(s.frBank, f)] []

/-- It completes, having written the pair `DR[f/2] = v` and nothing else (10_state.md R70). -/
def DrResult (i : Instr) (s : State) (f : FReg) (v : BitVec 64) : Prop :=
  Completes i s fun t =>
    t.dr f = v ∧ FpuFrame s t [(s.frBank, evenReg f), (s.frBank, oddReg f)] []

/-- Its next state is `s` with this FPUL, moved on. -/
def FpulResult (i : Instr) (s : State) (v : Word) : Prop := exec i s = .next { s.advance with fpul := v }

/-- What an `FMOV` load at `ea` completes with, the address registers `regs` left to `P` (R369). -/
def FmovLoadResult (i : Instr) (s : State) (n : FReg) (ea : Word) (regs : List Reg) (P : State → Prop) : Prop :=
  (∀ p, s.sz = false → s.check .read .l ea = .ok p →
    Completes i s fun t =>
      t.fr n = s.valueAt s.cfg.endianLocal .l p ∧ FpuFrame (s.noteRead .l p) t [(s.frBank, n)] regs ∧ P t)
  ∧ (∀ hi lo, s.sz = true → s.checkPair .read ea = .ok (hi, lo) →
    Completes i s fun t =>
      t.pair n = (s.valueAt s.cfg.endianLocal .l hi, (s.noteRead .l hi).valueAt s.cfg.endianLocal .l lo)
      ∧ FpuFrame ((s.noteRead .l hi).noteRead .l lo) t
          [(s.pairBank n, evenReg n), (s.pairBank n, oddReg n)] regs ∧ P t)

/-- What an `FMOV` store at `ea` completes with, the address registers `regs` left to `P` (R369). -/
def FmovStoreResult (i : Instr) (s : State) (m : FReg) (ea : Word) (regs : List Reg) (P : State → Prop) : Prop :=
  (∀ p, s.sz = false → s.check .write .l ea = .ok p →
    Completes i s fun t => Stores s t .l p (s.fr m) regs [] ∧ P t)
  ∧ (∀ hi lo, s.sz = true → s.checkPair .write ea = .ok (hi, lo) →
    Completes i s fun t => StoresPair s t hi lo (s.pair m) regs ∧ P t)

/-- The exact value of a finite operand or result; an infinity or a NaN has none. -/
def FpVal.toRat : FpVal → Option ℚ
  | .nan => none
  | .inf _ => none
  | .fin neg m e => some ((if neg then -1 else 1) * (m : ℚ) * (2 : ℚ) ^ e)

/-- The value of a positive pattern of a format that is no NaN; infinity counts as the power of two above the largest
number, which is where rounding to it begins to compare (47_groupF_fpu.md R366). -/
noncomputable def FpFormat.magnitude (f : FpFormat) (k : Nat) : ℝ :=
  if k < 2 ^ f.fracBits then (k : ℝ) * (2 : ℝ) ^ f.minExp
  else ((2 ^ f.fracBits + k % 2 ^ f.fracBits : Nat) : ℝ) * (2 : ℝ) ^ (f.minExp + (k / 2 ^ f.fracBits : Nat) - 1)

/-- The pattern `k` is the one nearest to `x`, the even one of two that are as near (RM = 0; 10_state.md R63). -/
def FpFormat.Nearest (f : FpFormat) (x : ℝ) (k : Nat) : Prop :=
  k ≤ f.infinity ∧ ∀ j, j ≤ f.infinity → j ≠ k →
    |x - f.magnitude k| < |x - f.magnitude j|
    ∨ (|x - f.magnitude k| = |x - f.magnitude j| ∧ k % 2 = 0)

/-- The pattern `k` is the largest finite one not above `x` (RM = 1; R63). -/
def FpFormat.TowardZero (f : FpFormat) (x : ℝ) (k : Nat) : Prop :=
  k < f.infinity ∧ f.magnitude k ≤ x ∧ ∀ j, j < f.infinity → f.magnitude j ≤ x → j ≤ k

/-- `p` is the pattern of the value with this sign and magnitude `x`, rounded; with `dn` a denormalized result is zero
of the same sign (R63, R64; R366). -/
def FpFormat.Rounds (f : FpFormat) (toZero dn neg : Bool) (x : ℝ) (p : Nat) : Prop :=
  ∃ k, (if toZero then f.TowardZero x k else f.Nearest x k)
    ∧ p = f.signBit neg + (if dn && decide (k < 2 ^ f.fracBits) then 0 else k)

/-- The integer part of a rational, toward zero. -/
def truncRat (x : ℚ) : Int := if 0 ≤ x then ⌊x⌋ else ⌈x⌉

/-- `t` agrees with `s` in every register that only supervisor mode may write, Bank B included
(60_exceptions.md R461, R462). -/
structure SameSupervisorState (s t : State) : Prop where
  vbr : t.vbr = s.vbr
  ssr : t.ssr = s.ssr
  spc : t.spc = s.spc
  sgr : t.sgr = s.sgr
  dbr : t.dbr = s.dbr
  bankB : t.bankB = s.bankB

end Sys2Proof.Machine
end

