-- ==== Sys2Proof/Certificates/Slice0/Obligations.lean ====
section
/-! DEFINITION. The statements for the provers, one definition each; OBLIGATIONS.json lists them. Every statement
is about every state, one that no run reaches included, unless a premise says otherwise. -/

open Sys2Proof Sys2Proof.Machine

/-! ### Encoding -/

/-- Every operand of every well-formed instruction survives encoding and decoding, in either byte order, whatever
bytes follow (30_encoding.md R134, R148). -/
def Obligations.DecodeOfEncode : Prop :=
  ∀ (e : Endian) (i : Instr) (rest : List Byte), i.wf = true →
    decodeBytes e (encodeBytes e i ++ rest) = .ok i

/-- What the decoder reads is well-formed, and its encoding is the bytes it was read from: no word has two
meanings (R134). -/
def Obligations.EncodeOfDecode : Prop :=
  ∀ (e : Endian) (bytes : List Byte) (i : Instr), decodeBytes e bytes = .ok i →
    i.wf = true ∧ encodeBytes e i <+: bytes

/-- A first word 8Axx takes the second word as its low 16 bits; any other word is decoded alone (R148, R410). -/
def Obligations.InstructionLength : Prop :=
  ∀ (iw iw2 iw2' : Half),
    (iw.extractLsb' 8 8 = 0x8A#8 → decode iw iw2 = .ok (.movi24 (iw.extractLsb' 0 8 ++ iw2)))
    ∧ (iw.extractLsb' 8 8 ≠ 0x8A#8 → decode iw iw2 = decode iw iw2')

/-- A word in a space kept for 32-bit forms is never one of their instructions, and no instruction of the model
that runs: executed, it is the reserved encoding's event, whatever word follows (R151). -/
def Obligations.ReservedSpaces : Prop :=
  ∀ (b c x : Nibble) (iw2 : Half) (s : State),
    runDecoded (decode (word4 0x0 b c 0x0) iw2) s = raise s.illegal s
    ∧ runDecoded (decode (word4 0x0 b c 0x1) iw2) s = raise s.illegal s
    ∧ runDecoded (decode (word4 0x3 b c 0x1) iw2) s = raise s.illegal s
    ∧ runDecoded (decode (word4 0x3 b c 0x9) iw2) s = raise s.illegal s
    ∧ runDecoded (decode (word4 0xF b c 0xF) iw2) s = raise s.illegal s
    ∧ isTwoWord (word4 0x0 b c x) = false ∧ isTwoWord (word4 0x3 b c x) = false
    ∧ isTwoWord (word4 0xF b c x) = false

/-- Words written out from the rules' own examples, one or two of each group. -/
def Obligations.SampleWords : Prop :=
  decode 0x0129 0 = .ok (.movt 1) ∧ decode 0x01A2 0 = .ok (.stcBank 1 2)
  ∧ decode 0x1123 0 = .ok (.movLStoreDisp 1 2 3) ∧ decode 0x2126 0 = .ok (.movLPush 1 2)
  ∧ decode 0x312E 0 = .ok (.addc 1 2) ∧ decode 0x41AE 0 = .ok (.ldcBank 1 2)
  ∧ decode 0x5123 0 = .ok (.movLLoadDisp 1 2 3) ∧ decode 0x6128 0 = .ok (.swapB 1 2)
  ∧ decode 0x71FF 0 = .ok (.addI 1 0xFF) ∧ decode 0x8123 0 = .ok (.movWStoreDisp 2 3)
  ∧ decode 0x8A12 0x3456 = .ok (.movi24 0x123456) ∧ decode 0x9102 0 = .ok (.movWLoadPc 1 2)
  ∧ decode 0xAFFE 0 = .ok (.bra 0xFFE) ∧ decode 0xB001 0 = .ok (.bsr 1)
  ∧ decode 0xC310 0 = .ok (.trapa 0x10) ∧ decode 0xD102 0 = .ok (.movLLoadPc 1 2)
  ∧ decode 0xE1FF 0 = .ok (.movI 1 0xFF) ∧ decode 0xF12E 0 = .ok (.fmac 1 2)
  ∧ decode 0xF3FD 0 = .ok .fschg

/-! ### One step -/

/-- Where no interrupt is accepted and the agent is awake, a step is what the fetched and decoded instruction does
in the state past the step boundary, after the fetches; a word that is none raises the reserved encoding's event,
and an event of either fetch enters the trap with nothing else done (00_scope.md R16; 60_exceptions.md R440 (2),
(3)). That an event of the second fetch saves the address of the instruction's first word, not of the second, is
the model's choice (log 31). What the handler of region 7 answers and what it has seen is the model's choice (log
45). -/
def Obligations.StepRunsDecoded : Prop :=
  ∀ (s u : State) (a b : Loaded Half) (i : Instr) (e : Event), s.accepted = none → s.asleep = false →
    u = s.pastBoundary →
    (u.fetch s.fetchMd s.pc = .ok a → isTwoWord a.value = false → decode a.value 0 = .ok i →
      step s = exec i a.state)
    ∧ (u.fetch s.fetchMd s.pc = .ok a → isTwoWord a.value = false → (∃ r, decode a.value 0 = .error r) →
      step s = raise s.illegal a.state)
    ∧ (u.fetch s.fetchMd s.pc = .ok a → isTwoWord a.value = true →
      a.state.fetch s.fetchMd (s.pc + 2) = .ok b → decode a.value b.value = .ok i → step s = exec i b.state)
    ∧ (u.fetch s.fetchMd s.pc = .error (.event e) → s.TakesEvents → step s = .next (trapEntry e u))
    ∧ (u.fetch s.fetchMd s.pc = .ok a → isTwoWord a.value = true →
      a.state.fetch s.fetchMd (s.pc + 2) = .error (.event e) → s.TakesEvents →
      step s = .next (trapEntry e a.state))

/-- What the fetch of a word reads, and what stops it: an odd address, a user-mode fetch from regions 4 to 7, and
under `IFETCH_COHERENT = refuse` a byte this agent has stored to (20_memory.md R93, R97, R118). From memory it changes
nothing; in region 7 the handler's answer is the word, and the handler has seen the fetch (R89; the handler's form is
the model's choice, log 45). -/
def Obligations.FetchReadsMemory : Prop :=
  ∀ (s : State) (md : Bool) (a : Word),
    (a.getLsbD 0 = true → s.fetch md a = .error (.event (.addressError .fetch a)))
    ∧ (a.getLsbD 0 = false → s.cfg.addrMode = .sh4 → md = false → a.msb = true →
        s.fetch md a = .error (.event (.addressError .fetch a)))
    ∧ (∀ p, a.getLsbD 0 = false → s.locate .fetch md a = .ok p → s.cfg.ifetch = .refuse →
        (p.loc ∈ s.stored ∨ p.loc + 1 ∈ s.stored) →
        s.fetch md a = .error (.refuse .storedInstruction))
    ∧ (∀ loc, a.getLsbD 0 = false → s.locate .fetch md a = .ok (.mem loc) →
        (s.cfg.ifetch = .coherent ∨ (loc ∉ s.stored ∧ loc + 1 ∉ s.stored)) →
        s.fetch md a = .ok
          { value := match s.cfg.endian with
              | .little => memGet s.mem (loc + 1) ++ memGet s.mem loc
              | .big => memGet s.mem loc ++ memGet s.mem (loc + 1)
            state := s })
    ∧ (∀ b, a.getLsbD 0 = false → s.locate .fetch md a = .ok (.special b) →
        (s.cfg.ifetch = .coherent ∨ (b.toNat ∉ s.stored ∧ b.toNat + 1 ∉ s.stored)) →
        b = a ∧ s.fetch md a = .ok
          { value := (Config.specialAnswer (.fetch a :: s.special)).extractLsb' 0 16
            state := { s with special := .fetch a :: s.special } })

/-- An interrupt above SR.IM with SR.BL = 0 and no delay slot pending is taken before the instruction, and leaves
SR.IM; one that is not accepted has no effect on the step; a sleeping agent that accepts nothing stays as it is, and is
stuck when no request is ever to come (R451, R452, R465; the stuck state is the model's fault of log 30). -/
def Obligations.InterruptsAndSleep : Prop :=
  ∀ (s : State) (level : BitVec 4) (rest : List (Option (BitVec 4))),
    (s.irqs = some level :: rest → s.bl = false → s.slot = none → s.im < level →
      ∃ t, step s = .next t ∧ t = trapEntry (.interrupt level) { s with irqs := rest }
        ∧ t.spc = s.pc ∧ t.ssr = s.sr ∧ t.im = s.im ∧ t.asleep = false)
    ∧ (s.irqs = some level :: rest → s.bl = true ∨ s.slot ≠ none ∨ level ≤ s.im →
      step s = step { s with irqs := none :: rest })
    ∧ (s.asleep = true → s.accepted = none → s.irqs ≠ [] →
      step s = .next { s with irqs := s.irqs.tail })
    ∧ (s.asleep = true → s.irqs = [] → step s = .fault .asleepForever)

/-- Where an instruction leaves the PC: the next word when its rule does not assign it, and after any instruction in
a delay slot the pending target, with no slot pending; or else it has entered a trap (10_state.md R38, R40). That `SLEEP`
in a delay slot is no exception (log 46), and that reads which the handler of region 7 has seen before a trap stay seen
(log 45), are the model's choices. -/
def Obligations.PcAfterInstruction : Prop :=
  ∀ (i : Instr) (s t : State), i.wf = true → exec i s = .next t →
    (assignsPc i = false → (t.pc = s.nextPc ∧ t.slot = none) ∨ EntersTrap s t)
    ∧ (∀ d, s.slot = some d → (t.pc = d.target ∧ t.slot = none) ∨ EntersTrap s t)

/-! ### Reset -/

/-- The state in which a run begins holds the RESET record's values, the PC even, SR and FPSCR through the masks, the
loaded image, no delay slot, no sleep, and no request pending (70_reset_and_hazards.md R480; 10_state.md R80, R81). The
model's choices: what a register holds that the record does not give (log 5) and a byte that the image does not
(log 6), how `IntSource` and the image are given (logs 29, 39), and the record, the parameters, the empty image and the
silent source of `State.reset` (logs 2 to 4, 29, 39). -/
def Obligations.ResetState : Prop :=
  ∀ (r : ResetValues) (cfg : Config) (image : List (Word × Byte)) (later : List (Option (BitVec 4))),
    let t := State.launch r cfg image later
    t.pc = r.pc ∧ t.pc.getLsbD 0 = false ∧ t.sr = r.sr &&& 0x700083F3 ∧ t.vbr = r.vbr
    ∧ t.fpscr = r.fpscr &&& 0x003C0003
    ∧ t.bankA = r.bankA ∧ t.bankB = r.bankB ∧ t.rh = r.rh ∧ t.gbr = r.gbr ∧ t.ssr = r.ssr
    ∧ t.spc = r.spc ∧ t.sgr = r.sgr ∧ t.dbr = r.dbr ∧ t.mach = r.mach ∧ t.macl = r.macl
    ∧ t.pr = r.pr ∧ t.fpul = r.fpul ∧ t.fb0 = r.fb0 ∧ t.fb1 = r.fb1
    ∧ (∀ a : Word, memGet t.mem a.toNat = (image.lookup a).getD Config.blankByte)
    ∧ t.slot = none ∧ t.asleep = false ∧ t.accepted = none ∧ t.irqs.tail = later ∧ t.stored = []
    ∧ t.special = [] ∧ t.cfg = cfg
    ∧ State.resetWith r cfg = State.launch r cfg [] [] ∧ (State.resetWith r cfg).irqs = []
    ∧ State.reset = State.resetWith Config.resetSh4 Config.standard ∧ State.reset.pc = 0xA0000000
    ∧ State.reset.sr = 0x700000F0 ∧ State.reset.vbr = 0 ∧ State.reset.fpscr = 0x00040001

/-- The invariant holds right after reset, whatever the RESET record, the parameters, the image and the interrupt
source. -/
def Obligations.ResetMeetsInvariant : Prop :=
  ∀ (r : ResetValues) (cfg : Config) (image : List (Word × Byte)) (later : List (Option (BitVec 4))),
    (State.launch r cfg image later).Inv ∧ (State.resetWith r cfg).Inv

/-! ### Rules of the whole machine -/

/-- Every step keeps the invariant: canonical memory, listed bits only in SR and FPSCR, no delay slot pending while
asleep, a pending slot of `RTE` left by supervisor mode, and no access seen in region 7 where it has no handler. -/
def Obligations.StepKeepsInvariant : Prop := ∀ (s t : State), s.Inv → step s = .next t → t.Inv

/-- A step from user mode stays in user mode and leaves VBR, SSR, SPC, SGR, DBR and Bank B as they were, or enters a
trap (60_exceptions.md R460 to R462). -/
def Obligations.UserModeIsolation : Prop :=
  ∀ (s t : State), s.md = false → step s = .next t →
    (t.md = false ∧ SameSupervisorState s t) ∨ EntersTrap s.pastBoundary t

/-- A step that stays in user mode does not depend on VBR, SSR, SPC, SGR, DBR or Bank B: with other values there it
does the same and leaves those values (R462). -/
def Obligations.UserModeCannotRead : Prop :=
  ∀ (s t : State) (vbr ssr spc sgr dbr : Word) (bankB : Vector Word 8), s.md = false → step s = .next t →
    t.md = false →
    step { s with vbr := vbr, ssr := ssr, spc := spc, sgr := sgr, dbr := dbr, bankB := bankB }
      = .next { t with vbr := vbr, ssr := ssr, spc := spc, sgr := sgr, dbr := dbr, bankB := bankB }

/-- IM, FD, BL, RB and MD are changed only by entering a trap and by the whole-SR writes (10_state.md R45,
R48 to R51). -/
def Obligations.ModeBitsWriters : Prop :=
  ∀ (i : Instr) (s t : State), exec i s = .next t →
    EntersTrap s t ∨ writesWholeSr i = true
    ∨ (t.im = s.im ∧ t.fd = s.fd ∧ t.bl = s.bl ∧ t.rb = s.rb ∧ t.md = s.md)

/-- T is changed only by the instructions R43 lists, S only by `CLRS`, `SETS`, Q and M only by the divide
instructions, and all by the whole-SR writes (10_state.md R43, R44, R46, R47). -/
def Obligations.FlagWriters : Prop :=
  ∀ (i : Instr) (s t : State), exec i s = .next t →
    (writesT i = false → t.t = s.t)
    ∧ (writesWholeSr i = false → i ≠ .clrs → i ≠ .sets → t.satS = s.satS)
    ∧ (writesWholeSr i = false → i ≠ .div0u → (∀ n m, i ≠ .div0s n m) →
        t.m = s.m ∧ ((∀ n m, i ≠ .div1 n m) → t.q = s.q))

/-- Whatever an instruction does, every byte outside the stretches it stores to, at the addresses its rule computes,
reads as before (60_exceptions.md R432; 20_memory.md R96). -/
def Obligations.MemoryFrame : Prop :=
  ∀ (i : Instr) (s t : State), Memory.wf s.mem = true → exec i s = .next t →
    ∀ a, (∀ p ∈ storedSpans i s, a < p.1 ∨ p.1 + p.2 ≤ a) → memGet t.mem a = memGet s.mem a

/-- No step changes a parameter (00_scope.md R7; 20_memory.md R90) or DBR (10_state.md R59). -/
def Obligations.ParametersAndDbrConstant : Prop :=
  ∀ (s t : State), step s = .next t → t.cfg = s.cfg ∧ t.dbr = s.dbr

/-- While SR.BL = 1 nothing but the register's own load changes SPC, SSR or SGR, and no instruction is diverted to a
vector: a handler's saved state is safe until it clears BL (60_exceptions.md R456, R457). -/
def Obligations.SavedStateWhileBlocked : Prop :=
  ∀ (i : Instr) (s t : State), s.bl = true → exec i s = .next t →
    ((∀ m, i ≠ .ldcSpc m) → (∀ m, i ≠ .ldclSpc m) → t.spc = s.spc)
    ∧ ((∀ m, i ≠ .ldcSsr m) → (∀ m, i ≠ .ldclSsr m) → t.ssr = s.ssr)
    ∧ ((∀ m, i ≠ .ldcSgr m) → (∀ m, i ≠ .ldclSgr m) → t.sgr = s.sgr)
    ∧ (i.wf = true → assignsPc i = false → t.pc = s.nextPc ∧ t.slot = none)

/-! ### Events -/

/-- The state right after trap entry, for every event (60_exceptions.md R445, R458). SGR under
`SGR_ON_TRAP = draw` is left open. -/
def Obligations.TrapEntryState : Prop :=
  ∀ (e : Event) (s : State),
    (trapEntry e s).sr = s.sr ||| 0x70000000 ∧ (trapEntry e s).ssr = s.sr
    ∧ (trapEntry e s).spc = savedPc s e ∧ (trapEntry e s).pc = s.vbr + vecOffset s.cfg.vec e
    ∧ (trapEntry e s).md = true ∧ (trapEntry e s).rb = true ∧ (trapEntry e s).bl = true
    ∧ (trapEntry e s).t = s.t ∧ (trapEntry e s).satS = s.satS ∧ (trapEntry e s).im = s.im
    ∧ (trapEntry e s).q = s.q ∧ (trapEntry e s).m = s.m ∧ (trapEntry e s).fd = s.fd
    ∧ (s.cfg.sgrOnTrap = .r15 → (trapEntry e s).sgr = s.r 15)
    ∧ (s.cfg.sgrOnTrap = .unchanged → (trapEntry e s).sgr = s.sgr)
    ∧ (trapEntry e s).onB = true ∧ (∀ k : BankReg, (trapEntry e s).r (0#1 ++ k) = bankGet s.bankB k)
    ∧ (∀ j : Reg, j.msb = true → (trapEntry e s).r j = s.r j)
    ∧ (trapEntry e s).slot = none ∧ (trapEntry e s).asleep = false
    ∧ (trapEntry e s).bankA = s.bankA ∧ (trapEntry e s).bankB = s.bankB ∧ (trapEntry e s).rh = s.rh
    ∧ (trapEntry e s).mem = s.mem ∧ (trapEntry e s).gbr = s.gbr ∧ (trapEntry e s).vbr = s.vbr
    ∧ (trapEntry e s).pr = s.pr ∧ (trapEntry e s).mach = s.mach ∧ (trapEntry e s).macl = s.macl
    ∧ (trapEntry e s).special = s.special ∧ SameFpu s (trapEntry e s)

/-- The PC that trap entry saves, by event and by whether a delay slot is pending; in the delay slot of `RTE` an event
is refused (R447). -/
def Obligations.SavedPcByEvent : Prop :=
  ∀ (s : State) (k : Access) (ea : Word) (miss : Bool) (imm : BitVec 8) (level : BitVec 4),
    (s.slot = none →
      savedPc s .illegalInstruction = s.pc ∧ savedPc s .fpuDisabled = s.pc
      ∧ savedPc s (.addressError k ea) = s.pc ∧ savedPc s (.mmuFault k ea miss) = s.pc
      ∧ savedPc s (.trap imm) = s.pc + 2 ∧ savedPc s .breakpoint = s.pc + 2)
    ∧ (s.slot ≠ none →
      savedPc s .slotIllegal = s.pc - 2 ∧ savedPc s .slotFpuDisabled = s.pc - 2
      ∧ savedPc s (.addressError k ea) = s.pc - 2 ∧ savedPc s (.mmuFault k ea miss) = s.pc - 2)
    ∧ savedPc s (.interrupt level) = s.pc
    ∧ (∀ d e, s.slot = some d → d.rteMd ≠ none → raise e s = .refused .eventInRteSlot)

/-- A reserved encoding raises IllegalInstruction, SlotIllegal in a delay slot, in either mode and whatever SR.FD is
(30_encoding.md R150; R433, R440 (3)). That the 32-bit forms are constructors at all is the model's choice (log 28). -/
def Obligations.ReservedEncodingsRaise : Prop :=
  ∀ (i : Instr) (s : State), isReserved i = true → s.TakesEvents →
    exec i s = .next (trapEntry (if s.slot = none then .illegalInstruction else .slotIllegal) s)

/-- A privileged instruction in user mode raises IllegalInstruction, SlotIllegal in a delay slot (R461). -/
def Obligations.PrivilegedInUserMode : Prop :=
  ∀ (i : Instr) (s : State), isPrivileged i = true → s.md = false → s.TakesEvents →
    exec i s = .next (trapEntry (if s.slot = none then .illegalInstruction else .slotIllegal) s)

/-- A branch, a PC-relative operation, `TRAPA`, `BRK` or `MOVI24` in a delay slot raises SlotIllegal, and the
address of the delayed branch is saved (R436). -/
def Obligations.BannedInDelaySlot : Prop :=
  ∀ (i : Instr) (s : State) (d : Slot), bannedInSlot i = true → s.slot = some d → s.TakesEvents →
    ∃ t, exec i s = .next t ∧ t = trapEntry .slotIllegal s ∧ t.spc = s.pc - 2

/-- An FPU instruction with SR.FD = 1 raises FpuDisabled, SlotFpuDisabled in a delay slot, and saves its own address,
the delayed branch's for the slot form (R438). -/
def Obligations.FpuDisabledRaises : Prop :=
  ∀ (i : Instr) (s : State), isFpu i = true → s.fd = true → s.TakesEvents →
    (s.slot = none → ∃ t, exec i s = .next t ∧ t = trapEntry .fpuDisabled s ∧ t.spc = s.pc)
    ∧ (s.slot ≠ none → ∃ t, exec i s = .next t ∧ t = trapEntry .slotFpuDisabled s ∧ t.spc = s.pc - 2)

/-- `TRAPA` and `BRK` enter the trap, saving the next instruction's address, and do nothing else; while SR.BL = 1 the
model has no step for them (R437, R439, R457). -/
def Obligations.TrapaAndBreakpoint : Prop :=
  ∀ (imm : BitVec 8) (s : State), s.slot = none →
    (s.bl = false →
      exec (.trapa imm) s = .next (trapEntry (.trap imm) s) ∧ (trapEntry (.trap imm) s).spc = s.pc + 2
      ∧ exec .brk s = .next (trapEntry .breakpoint s) ∧ (trapEntry .breakpoint s).spc = s.pc + 2)
    ∧ (s.bl = true →
      exec (.trapa imm) s = .refused .eventWhileBlocked ∧ exec .brk s = .refused .eventWhileBlocked)

/-- A misaligned data access is an address error of its kind at its address, with nothing written: the first
access of every instruction that makes one, and the second of `MAC.L` and `MAC.W`. An aligned one is none in SH-2
mode. In SH-4 address mode a user-mode access to regions 4 to 7 is one (20_memory.md R88, R92; R432). Whatever
event the checks of an access answer, a fault of the MMU or of a region among them, enters the trap, and where
they have no step there is none: those of every instruction's first access, of the read of a read-modify-write
after those of its write, and of the second read of `MAC.L` and `MAC.W` (R432, R435, R440 (8)). The model's
choices: the event of `TAS.B`, `CAS.L`, `AND.B`, `XOR.B` and `OR.B` is that of the write check, which comes first
(log 37), and a first read of `MAC.L` or `MAC.W` that the handler of region 7 has seen stays seen when the second
one stops (log 45). -/
def Obligations.DataAddressErrors : Prop :=
  ∀ (s : State), s.TakesEvents →
    (∀ (i : Instr) (d : DataAccess), Admitted i s → dataAccess i s = some d → d.ea.toNat % d.bytes ≠ 0 →
      exec i s = .next (trapEntry (.addressError d.kind d.ea) s))
    ∧ (∀ (k : Access) (sz : Size) (ea : Word), s.cfg.addrMode = .sh2 → ea.toNat % sz.bytes = 0 →
      s.check k sz ea = .ok (.mem ea.toNat))
    ∧ (∀ (n m : Reg) (a : Loaded Word), m ≠ n → (s.r m).toNat % 4 ≠ 0 → s.read .l (s.r n) = .ok a →
      exec (.macL n m) s = .next (trapEntry (.addressError .read (s.r m)) a.state))
    ∧ (∀ (n m : Reg) (a : Loaded Word), m ≠ n → (s.r m).toNat % 2 ≠ 0 → s.read .w (s.r n) = .ok a →
      exec (.macW n m) s = .next (trapEntry (.addressError .read (s.r m)) a.state))
    ∧ (∀ (i : Instr) (d : DataAccess), Admitted i s → s.cfg.addrMode = .sh4 → s.md = false →
      dataAccess i s = some d → d.ea.msb = true →
      exec i s = .next (trapEntry (.addressError d.kind d.ea) s))
    ∧ (∀ (i : Instr) (d : DataAccess) (x : Stop), Admitted i s → dataAccess i s = some d → s.Stops d x →
      StoppedBy x s (exec i s))
    ∧ (∀ (m : Reg) (p : Place), s.check .write .b (s.r m) = .ok p →
      Follows (s.check .read .b (s.r m)) s (exec (.tasB m) s))
    ∧ (∀ (imm : BitVec 8) (p : Place), s.check .write .b (s.gbr + s.r 0) = .ok p →
      Follows (s.check .read .b (s.gbr + s.r 0)) s (exec (.andBGbr imm) s)
      ∧ Follows (s.check .read .b (s.gbr + s.r 0)) s (exec (.xorBGbr imm) s)
      ∧ Follows (s.check .read .b (s.gbr + s.r 0)) s (exec (.orBGbr imm) s))
    ∧ (∀ (n m : Reg) (p : Place), s.check .write .l (s.r 0) = .ok p →
      Follows (s.check .read .l (s.r 0)) s (exec (.casL n m) s))
    ∧ (∀ (n m : Reg) (a : Loaded Word), s.read .l (s.r n) = .ok a →
      Follows (s.check .read .l (if m = n then s.r n + 4 else s.r m)) a.state (exec (.macL n m) s))
    ∧ (∀ (n m : Reg) (a : Loaded Word), s.read .w (s.r n) = .ok a →
      Follows (s.check .read .w (if m = n then s.r n + 2 else s.r m)) a.state (exec (.macW n m) s))

/-- The place of an effective address: all 32 bits in SH-2 mode; in SH-4 mode the low 29 bits, through the MMU in
regions 0 to 3 and 6 if there is one; in region 7 the handler's address if there is a handler, else it is refused;
without an MMU the four views of an address are one byte (R86, R89). The MMU is given SR.MD, whatever mode the
region check is made in (R74, R89; log 44); that it answers by pages of 4096 bytes is the model's form of the
parameter (log 19). The form of the handler is the model's choice (log 45). -/
def Obligations.Locations : Prop :=
  ∀ (s : State) (k : Access) (ea : Word),
    (s.cfg.addrMode = .sh2 → ∀ md, s.locate k md ea = .ok (.mem ea.toNat))
    ∧ (s.cfg.addrMode = .sh4 →
      (0x80000000 ≤ ea → ea < 0xC0000000 → s.locate k true ea = .ok (.mem (ea.toNat % 2 ^ 29)))
      ∧ (s.cfg.special = .absent → 0xE0000000 ≤ ea → s.locate k true ea = .error (.refuse .specialRegion))
      ∧ (s.cfg.special = .present → 0xE0000000 ≤ ea → s.locate k true ea = .ok (.special ea))
      ∧ (s.cfg.mmu = .absent → ea < 0x80000000 → ∀ md, s.locate k md ea = .ok (.mem (ea.toNat % 2 ^ 29)))
      ∧ (s.cfg.mmu = .absent → 0xC0000000 ≤ ea → ea < 0xE0000000 →
          s.locate k true ea = .ok (.mem (ea.toNat % 2 ^ 29)))
      ∧ (s.cfg.mmu = .present → ea < 0x80000000 → ∀ md, s.locate k md ea =
          mmuAnswer ea k (Config.translate (ea.extractLsb' 12 20) k s.md))
      ∧ (s.cfg.mmu = .present → 0xC0000000 ≤ ea → ea < 0xE0000000 → s.locate k true ea =
          mmuAnswer ea k (Config.translate (ea.extractLsb' 12 20) k s.md))
      ∧ (s.cfg.mmu = .absent → ea < 0x20000000 →
          s.locate k true (ea ||| 0x80000000) = s.locate k true ea
          ∧ s.locate k true (ea ||| 0xA0000000) = s.locate k true ea
          ∧ s.locate k true (ea ||| 0xC0000000) = s.locate k true ea))

/-- `RTE` restores SR from SSR through the mask and makes a delayed branch to SPC whose slot is fetched in the old
mode, and changes nothing else (40_group0_system_indexed.md R191; R455). -/
def Obligations.ReturnFromException : Prop :=
  ∀ (s : State), s.slot = none → s.md = true →
    exec .rte s = .next { s with
      sr := s.ssr &&& 0x700083F3, pc := s.pc + 2,
      slot := some { target := s.spc, rteMd := some true } }

/-- Trap, `RTE` and the `NOP` of its delay slot bring the interrupted state back: SR, the register bank, every register
and memory, at the saved PC; SPC, SSR and SGR keep what the trap left (R445, R455). -/
def Obligations.TrapThenReturn : Prop :=
  ∀ (e : Event) (s : State), s.srListed →
    ∃ u t, exec .rte (trapEntry e s) = .next u ∧ exec .nop u = .next t
      ∧ t.pc = savedPc s e ∧ t.sr = s.sr ∧ t.slot = none
      ∧ (∀ j, t.r j = s.r j) ∧ (∀ k, t.other k = s.other k)
      ∧ t.gbr = s.gbr ∧ t.vbr = s.vbr ∧ t.dbr = s.dbr ∧ SameAcc s t ∧ SameFpu s t ∧ SameMem s t
      ∧ t.ssr = s.sr ∧ t.spc = savedPc s e

/-- A word 8Exx is `XPFX0`, and the model has no step for it (48_ext_superops_32bit.md R412). -/
def Obligations.XpfxRefused : Prop :=
  ∀ (b c : Nibble) (iw2 : Half) (s : State),
    decode (word4 0x8 0xE b c) iw2 = .ok (.xpfx0 (b ++ c))
    ∧ exec (.xpfx0 (b ++ c)) s = .refused .prefixXpfx0

/-- The FPU forms that the spec has no step for, with SR.FD = 0: a pair instruction with FPSCR.PR = 1 and an odd field,
`FMAC`, `FLDI0`, `FLDI1` with PR = 1, `FCNVSD`, `FCNVDS` with PR = 0 (47_groupF_fpu.md R368 (a) to (c)), and under
FPNUM_IEEE the instructions that round with RM = 2 or 3 (R366). Which those are is the model's reading (log 15). -/
def Obligations.FpuFormsRefused : Prop :=
  ∀ (s : State) (n m : FReg), s.fd = false →
    (s.double = true → (n.getLsbD 0 = true ∨ m.getLsbD 0 = true) →
      ∀ i ∈ [Instr.fadd n m, .fsub n m, .fmul n m, .fdiv n m, .fcmpeq n m, .fcmpgt n m],
        exec i s = .refused .oddPairField)
    ∧ (s.double = true → n.getLsbD 0 = true →
      ∀ i ∈ [Instr.fsqrt n, .float n, .ftrc n, .fcnvsd n, .fcnvds n], exec i s = .refused .oddPairField)
    ∧ (s.double = true → ∀ i ∈ [Instr.fmac n m, .fldi0 n, .fldi1 n], exec i s = .refused .singleOnlyForm)
    ∧ (s.double = false → ∀ i ∈ [Instr.fcnvsd n, .fcnvds n], exec i s = .refused .doubleOnlyForm)
    ∧ (s.cfg.fpnum = .ieee → (s.rm = 2 ∨ s.rm = 3) → s.double = false →
      ∀ i ∈ [Instr.fadd n m, .fsub n m, .fmul n m, .fdiv n m, .fsqrt n, .fmac n m, .float n],
        exec i s = .refused .roundingMode)
    ∧ (s.cfg.fpnum = .ieee → (s.rm = 2 ∨ s.rm = 3) → s.double = true → n.getLsbD 0 = false →
      m.getLsbD 0 = false →
      ∀ i ∈ [Instr.fadd n m, .fsub n m, .fmul n m, .fdiv n m, .fsqrt n, .fcnvds n],
        exec i s = .refused .roundingMode)

/-! ### Results of the integer instructions -/

/-- Moves, sums, logic, extensions, swaps, plain shifts, `MOVT` and `LDSH8`: the destination's new value, and nothing
else changed but the PC. -/
def Obligations.RegisterResults : Prop :=
  ∀ (s : State) (n m : Reg) (imm : BitVec 8),
    RegResult (.movR n m) s n (s.r m) ∧ RegResult (.movI n imm) s n (imm.signExtend 32)
    ∧ RegResult (.addR n m) s n (s.r n + s.r m) ∧ RegResult (.addI n imm) s n (s.r n + imm.signExtend 32)
    ∧ RegResult (.subR n m) s n (s.r n - s.r m) ∧ RegResult (.neg n m) s n (-(s.r m))
    ∧ RegResult (.andR n m) s n (s.r n &&& s.r m) ∧ RegResult (.orR n m) s n (s.r n ||| s.r m)
    ∧ RegResult (.xorR n m) s n (s.r n ^^^ s.r m) ∧ RegResult (.notR n m) s n (s.r m ^^^ 0xFFFFFFFF)
    ∧ RegResult (.andI imm) s 0 (s.r 0 &&& imm.setWidth 32)
    ∧ RegResult (.orI imm) s 0 (s.r 0 ||| imm.setWidth 32)
    ∧ RegResult (.xorI imm) s 0 (s.r 0 ^^^ imm.setWidth 32)
    ∧ RegResult (.extuB n m) s n (s.r m &&& 0xFF) ∧ RegResult (.extuW n m) s n (s.r m &&& 0xFFFF)
    ∧ RegResult (.extsB n m) s n (((s.r m).extractLsb' 0 8).signExtend 32)
    ∧ RegResult (.extsW n m) s n (((s.r m).extractLsb' 0 16).signExtend 32)
    ∧ RegResult (.swapB n m) s n
        ((s.r m).extractLsb' 16 16 ++ (s.r m).extractLsb' 0 8 ++ (s.r m).extractLsb' 8 8)
    ∧ RegResult (.swapW n m) s n ((s.r m).extractLsb' 0 16 ++ (s.r m).extractLsb' 16 16)
    ∧ RegResult (.xtrct n m) s n ((s.r m).extractLsb' 0 16 ++ (s.r n).extractLsb' 16 16)
    ∧ RegResult (.shll2 n) s n (s.r n * 4) ∧ RegResult (.shll8 n) s n (s.r n * 256)
    ∧ RegResult (.shll16 n) s n (s.r n * 65536) ∧ RegResult (.shlr2 n) s n (s.r n / 4)
    ∧ RegResult (.shlr8 n) s n (s.r n / 256) ∧ RegResult (.shlr16 n) s n (s.r n / 65536)
    ∧ RegResult (.movt n) s n (if s.t then 1 else 0)
    ∧ RegResult (.ldsh8 imm) s 0
        ((s.r 0 <<< 8) ||| (if s.cfg.ldsh8Signed then imm.signExtend 32 else imm.setWidth 32))

/-- The one-bit shifts and rotates, with the bit shifted out in T, `DT`, and the dynamic shifts: left by the count's low
five bits when it is not negative, else right by 32 less them, and all the way when they are 0
(43_group4_shift_sysreg.md R240 to R245, R258 to R262, R289, R290). -/
def Obligations.ShiftResults : Prop :=
  ∀ (s : State) (n m : Reg),
    Reads 0x4 n 0x0 0x0 (.shll n) ∧ Reads 0x4 n 0x1 0x0 (.dt n) ∧ Reads 0x4 n 0x2 0x0 (.shal n)
    ∧ Reads 0x4 n 0x0 0x1 (.shlr n) ∧ Reads 0x4 n 0x2 0x1 (.shar n) ∧ Reads 0x4 n 0x0 0x4 (.rotl n)
    ∧ Reads 0x4 n 0x2 0x4 (.rotcl n) ∧ Reads 0x4 n 0x0 0x5 (.rotr n) ∧ Reads 0x4 n 0x2 0x5 (.rotcr n)
    ∧ Reads 0x4 n m 0xC (.shad n m) ∧ Reads 0x4 n m 0xD (.shld n m)
    ∧ RegTResult (.shll n) s n (s.r n * 2) (s.r n).msb ∧ RegTResult (.shal n) s n (s.r n * 2) (s.r n).msb
    ∧ RegTResult (.shlr n) s n (s.r n / 2) ((s.r n).getLsbD 0)
    ∧ RegTResult (.shar n) s n ((s.r n).sshiftRight 1) ((s.r n).getLsbD 0)
    ∧ RegTResult (.rotl n) s n ((s.r n).extractLsb' 0 31 ++ (s.r n).extractLsb' 31 1) (s.r n).msb
    ∧ RegTResult (.rotr n) s n ((s.r n).extractLsb' 0 1 ++ (s.r n).extractLsb' 1 31) ((s.r n).getLsbD 0)
    ∧ RegTResult (.rotcl n) s n ((s.r n).extractLsb' 0 31 ++ BitVec.ofBool s.t) (s.r n).msb
    ∧ RegTResult (.rotcr n) s n (BitVec.ofBool s.t ++ (s.r n).extractLsb' 1 31) ((s.r n).getLsbD 0)
    ∧ RegTResult (.dt n) s n (s.r n - 1) (decide (s.r n = 1))
    ∧ ((s.r m).msb = false →
      RegResult (.shad n m) s n (s.r n <<< ((s.r m).toNat % 32))
      ∧ RegResult (.shld n m) s n (s.r n <<< ((s.r m).toNat % 32)))
    ∧ ((s.r m).msb = true → (s.r m).toNat % 32 = 0 →
      RegResult (.shad n m) s n (if (s.r n).msb then 0xFFFFFFFF else 0) ∧ RegResult (.shld n m) s n 0)
    ∧ ((s.r m).msb = true → (s.r m).toNat % 32 ≠ 0 →
      RegResult (.shad n m) s n ((s.r n).sshiftRight (32 - (s.r m).toNat % 32))
      ∧ RegResult (.shld n m) s n (s.r n >>> (32 - (s.r m).toNat % 32)))

/-- The compares and tests write T by the relation they name, on signed or unsigned numbers, and nothing else. -/
def Obligations.CompareResults : Prop :=
  ∀ (s : State) (n m : Reg) (imm : BitVec 8),
    Reads 0x3 n m 0x0 (.cmpeqR n m) ∧ Reads 0x8 0x8 (imm.extractLsb' 4 4) (imm.extractLsb' 0 4) (.cmpeqI imm)
    ∧ Reads 0x3 n m 0x2 (.cmphs n m) ∧ Reads 0x3 n m 0x3 (.cmpge n m) ∧ Reads 0x3 n m 0x6 (.cmphi n m)
    ∧ Reads 0x3 n m 0x7 (.cmpgt n m) ∧ Reads 0x4 n 0x1 0x1 (.cmppz n) ∧ Reads 0x4 n 0x1 0x5 (.cmppl n)
    ∧ Reads 0x2 n m 0xC (.cmpstr n m) ∧ Reads 0x2 n m 0x8 (.tstR n m)
    ∧ Reads 0xC 0x8 (imm.extractLsb' 4 4) (imm.extractLsb' 0 4) (.tstI imm)
    ∧ FlagResult (.cmpeqR n m) s (decide (s.r n = s.r m))
    ∧ FlagResult (.cmpeqI imm) s (decide ((s.r 0).toInt = imm.toInt))
    ∧ FlagResult (.cmphs n m) s (decide ((s.r m).toNat ≤ (s.r n).toNat))
    ∧ FlagResult (.cmphi n m) s (decide ((s.r m).toNat < (s.r n).toNat))
    ∧ FlagResult (.cmpge n m) s (decide ((s.r m).toInt ≤ (s.r n).toInt))
    ∧ FlagResult (.cmpgt n m) s (decide ((s.r m).toInt < (s.r n).toInt))
    ∧ FlagResult (.cmppz n) s (decide (0 ≤ (s.r n).toInt))
    ∧ FlagResult (.cmppl n) s (decide (0 < (s.r n).toInt))
    ∧ FlagResult (.cmpstr n m) s
        (decide (∃ k : Fin 4, (s.r n).extractLsb' (8 * k) 8 = (s.r m).extractLsb' (8 * k) 8))
    ∧ FlagResult (.tstR n m) s (decide (s.r n &&& s.r m = 0))
    ∧ FlagResult (.tstI imm) s (decide (s.r 0 &&& imm.setWidth 32 = 0))

/-- The exact integers behind carry, borrow and overflow: result and T of `ADDC` make up the sum, of `SUBC` and `NEGC`
the difference; T of `ADDV` and `SUBV` says that the result is not the signed one
(42_group3_compare_arith.md R229, R230, R233, R234; 44_group5_6_7_load_unary_addimm.md R316). -/
def Obligations.CarryAndOverflowResults : Prop :=
  ∀ (s : State) (n m : Reg),
    Reads 0x3 n m 0xE (.addc n m) ∧ Reads 0x3 n m 0xA (.subc n m) ∧ Reads 0x6 n m 0xA (.negc n m)
    ∧ Reads 0x3 n m 0xF (.addv n m) ∧ Reads 0x3 n m 0xB (.subv n m)
    ∧ (∃ v b, RegTResult (.addc n m) s n v b
      ∧ v.toNat + 2 ^ 32 * b.toNat = (s.r n).toNat + (s.r m).toNat + s.t.toNat)
    ∧ (∃ v b, RegTResult (.subc n m) s n v b
      ∧ (v.toNat : Int) - 2 ^ 32 * b.toNat = (s.r n).toNat - (s.r m).toNat - s.t.toNat)
    ∧ (∃ v b, RegTResult (.negc n m) s n v b
      ∧ (v.toNat : Int) - 2 ^ 32 * b.toNat = 0 - (s.r m).toNat - s.t.toNat)
    ∧ RegTResult (.addv n m) s n (s.r n + s.r m)
        (decide ((s.r n + s.r m).toInt ≠ (s.r n).toInt + (s.r m).toInt))
    ∧ RegTResult (.subv n m) s n (s.r n - s.r m)
        (decide ((s.r n - s.r m).toInt ≠ (s.r n).toInt - (s.r m).toInt))

/-- `DIV0U`, `DIV0S` and one `DIV1`: Q, M, T and the shifted and corrected register, the borrow or carry taken from
exact numbers; nothing else changes (R181, R209, R224). -/
def Obligations.DivideStepResults : Prop :=
  ∀ (s : State) (n m : Reg),
    Reads 0x0 0x0 0x1 0x9 .div0u ∧ Reads 0x2 n m 0x7 (.div0s n m) ∧ Reads 0x3 n m 0x4 (.div1 n m)
    ∧ (Completes .div0u s fun t => t.m = false ∧ t.q = false ∧ t.t = false
      ∧ Frame s t [] [0, 8, 9] ∧ SameAcc s t ∧ SameFpu s t ∧ SameMem s t)
    ∧ (Completes (.div0s n m) s fun t =>
      t.q = (s.r n).msb ∧ t.m = (s.r m).msb ∧ t.t = ((s.r n).msb ^^ (s.r m).msb)
      ∧ Frame s t [] [0, 8, 9] ∧ SameAcc s t ∧ SameFpu s t ∧ SameMem s t)
    ∧ (Completes (.div1 n m) s fun t =>
      let a : Nat := (2 * (s.r n).toNat + s.t.toNat) % 2 ^ 32
      let b : Nat := (s.r m).toNat
      let c : Bool := if s.q = s.m then decide (a < b) else decide (2 ^ 32 ≤ a + b)
      t.r n = (if s.q = s.m then BitVec.ofNat 32 a - s.r m else BitVec.ofNat 32 a + s.r m)
      ∧ t.q = (((s.r n).msb ^^ c) ^^ s.m) ∧ t.t = !((s.r n).msb ^^ c)
      ∧ Frame s t [n] [0, 8] ∧ SameAcc s t ∧ SameFpu s t ∧ SameMem s t)

/-- Each `DIV1` of an unsigned division (M = 0, divisor D > 0) takes a partial remainder P with -D ≤ P < D to
2P + T - D when P is not negative, else to 2P + T + D, again in that range, and T is the quotient bit: whether it is
not negative (R224). -/
def Obligations.DividePartialRemainder : Prop :=
  ∀ (s : State) (n m : Reg) (P D : Int), n ≠ m → s.m = false → D = (s.r m).toNat → 0 < D →
    P = s.partialRemainder n → -D ≤ P → P < D →
    Completes (.div1 n m) s fun t =>
      t.partialRemainder n = 2 * P + s.t.toNat + (if 0 ≤ P then -D else D)
      ∧ -D ≤ t.partialRemainder n ∧ t.partialRemainder n < D
      ∧ (t.t = true ↔ 0 ≤ t.partialRemainder n)
      ∧ t.m = false ∧ t.r m = s.r m

/-- The multiplies, by exact products, and `CLRMAC`. -/
def Obligations.MultiplyResults : Prop :=
  ∀ (s : State) (n m : Reg),
    Reads 0x0 n m 0x7 (.mulL n m) ∧ Reads 0x2 n m 0xE (.muluW n m) ∧ Reads 0x2 n m 0xF (.mulsW n m)
    ∧ Reads 0x3 n m 0x5 (.dmuluL n m) ∧ Reads 0x3 n m 0xD (.dmulsL n m) ∧ Reads 0x0 0x0 0x2 0x8 .clrmac
    ∧ MacResult (.mulL n m) s s.mach (BitVec.ofNat 32 ((s.r n).toNat * (s.r m).toNat))
    ∧ MacResult (.muluW n m) s s.mach
        (BitVec.ofNat 32 (((s.r n).toNat % 2 ^ 16) * ((s.r m).toNat % 2 ^ 16)))
    ∧ (∃ lo, MacResult (.mulsW n m) s s.mach lo
        ∧ lo.toInt = ((s.r n).extractLsb' 0 16).toInt * ((s.r m).extractLsb' 0 16).toInt)
    ∧ (∃ hi lo, MacResult (.dmuluL n m) s hi lo
        ∧ 2 ^ 32 * hi.toNat + lo.toNat = (s.r n).toNat * (s.r m).toNat)
    ∧ (∃ hi lo, MacResult (.dmulsL n m) s hi lo
        ∧ 2 ^ 32 * hi.toInt + lo.toNat = (s.r n).toInt * (s.r m).toInt)
    ∧ MacResult .clrmac s 0 0

/-- `MAC.L`: both longs read, both registers stepped, the exact sum stored modulo 2^64, and with S = 1 clamped to
48 bits; nothing else changes (R199). What the handler of region 7 answers and what it has seen is the model's
choice (log 45). -/
def Obligations.MacLongResult : Prop :=
  ∀ (s : State) (n m : Reg) (a b : Loaded Word), s.read .l (s.r n) = .ok a →
    a.state.read .l (if m = n then s.r n + 4 else s.r m) = .ok b →
    Completes (.macL n m) s fun t =>
      (s.satS = false → t.mac = BitVec.ofInt 64 (s.mac.toInt + a.value.toInt * b.value.toInt))
      ∧ (s.satS = true →
          t.mac.toInt = max (-2 ^ 47) (min (2 ^ 47 - 1) (s.mac.toInt + a.value.toInt * b.value.toInt)))
      ∧ (m ≠ n → t.r n = s.r n + 4 ∧ t.r m = s.r m + 4) ∧ (m = n → t.r n = s.r n + 8)
      ∧ Frame b.state t [n, m] [] ∧ t.pr = s.pr ∧ SameFpu s t ∧ SameMem s t

/-- `MAC.W`: both words read, both registers stepped; with S = 0 the exact sum modulo 2^64; with S = 1 MACL
clamped to 32 bits, MACH as before when nothing was clamped and otherwise open (43_group4_shift_sysreg.md R304).
What the handler of region 7 answers and what it has seen is the model's choice (log 45). -/
def Obligations.MacWordResult : Prop :=
  ∀ (s : State) (n m : Reg) (a b : Loaded Word), s.read .w (s.r n) = .ok a →
    a.state.read .w (if m = n then s.r n + 2 else s.r m) = .ok b →
    Completes (.macW n m) s fun t =>
      let p : Int := (a.value.extractLsb' 0 16).toInt * (b.value.extractLsb' 0 16).toInt
      (s.satS = false → t.mac = BitVec.ofInt 64 (s.mac.toInt + p))
      ∧ (s.satS = true → t.macl.toInt = max (-2 ^ 31) (min (2 ^ 31 - 1) (s.macl.toInt + p)))
      ∧ (s.satS = true → -2 ^ 31 ≤ s.macl.toInt + p → s.macl.toInt + p < 2 ^ 31 → t.mach = s.mach)
      ∧ (m ≠ n → t.r n = s.r n + 2 ∧ t.r m = s.r m + 2) ∧ (m = n → t.r n = s.r n + 4)
      ∧ SameRegs s t [n, m] ∧ SameSr s t [] ∧ SameControl s t ∧ Moved s t
      ∧ t.irqs = s.irqs ∧ t.asleep = s.asleep ∧ t.special = b.state.special ∧ t.cfg = s.cfg
      ∧ t.pr = s.pr ∧ SameFpu s t ∧ SameMem s t

/-- `CLRT`, `SETT`, `CLRS`, `SETS` write their flag; `NOP` and `PREF` only move on; `SLEEP` in supervisor mode
moves on asleep. That `SLEEP` in a delay slot moves on to the branch's target, whose address waking then saves, is
the model's choice (log 46). -/
def Obligations.FlagAndHintResults : Prop :=
  ∀ (s : State) (n : Reg),
    FlagResult .clrt s false ∧ FlagResult .sett s true
    ∧ (Completes .clrs s fun t => t.satS = false
      ∧ Frame s t [] [1] ∧ SameAcc s t ∧ SameFpu s t ∧ SameMem s t)
    ∧ (Completes .sets s fun t => t.satS = true
      ∧ Frame s t [] [1] ∧ SameAcc s t ∧ SameFpu s t ∧ SameMem s t)
    ∧ (Completes .nop s fun t => Frame s t [] [] ∧ SameAcc s t ∧ SameFpu s t ∧ SameMem s t)
    ∧ (Completes (.pref n) s fun t => Frame s t [] [] ∧ SameAcc s t ∧ SameFpu s t ∧ SameMem s t)
    ∧ (s.md = true → exec .sleep s = .next { s.advance with asleep := true })

/-! ### Special registers -/

/-- The reads of the special registers and of the other bank, under the mode or the FPU bit each needs, write the
destination and nothing else. -/
def Obligations.SpecialRegisterReads : Prop :=
  ∀ (s : State) (n : Reg) (k : BankReg),
    RegResult (.stsMach n) s n s.mach ∧ RegResult (.stsMacl n) s n s.macl ∧ RegResult (.stsPr n) s n s.pr
    ∧ RegResult (.stcGbr n) s n s.gbr
    ∧ (s.md = true →
      RegResult (.stcSr n) s n s.sr ∧ RegResult (.stcVbr n) s n s.vbr ∧ RegResult (.stcSsr n) s n s.ssr
      ∧ RegResult (.stcSpc n) s n s.spc ∧ RegResult (.stcSgr n) s n s.sgr
      ∧ RegResult (.stcBank n k) s n (if s.onB then bankGet s.bankA k else bankGet s.bankB k))
    ∧ (s.fd = false → RegResult (.stsFpul n) s n s.fpul ∧ RegResult (.stsFpscr n) s n s.fpscr)

/-- The writes of the special registers from a general register, SR and FPSCR through their masks: the next state is
the moved one with that register alone changed; `LDC Rm,Rn_B` writes one register of the bank that is not mapped and no
other (10_state.md R35, R52, R66). -/
def Obligations.SpecialRegisterWrites : Prop :=
  ∀ (s : State) (m : Reg) (nb : BankReg),
    exec (.ldsMach m) s = .next { s.advance with mach := s.r m }
    ∧ exec (.ldsMacl m) s = .next { s.advance with macl := s.r m }
    ∧ exec (.ldsPr m) s = .next { s.advance with pr := s.r m }
    ∧ exec (.ldcGbr m) s = .next { s.advance with gbr := s.r m }
    ∧ (s.md = true →
      exec (.ldcSr m) s = .next { s.advance with sr := s.r m &&& 0x700083F3 }
      ∧ exec (.ldcVbr m) s = .next { s.advance with vbr := s.r m }
      ∧ exec (.ldcSsr m) s = .next { s.advance with ssr := s.r m }
      ∧ exec (.ldcSpc m) s = .next { s.advance with spc := s.r m }
      ∧ exec (.ldcSgr m) s = .next { s.advance with sgr := s.r m }
      ∧ (Completes (.ldcBank m nb) s fun t =>
        (∀ j, t.r j = s.r j) ∧ (∀ k, t.other k = if k = nb then s.r m else s.other k)
        ∧ t.sr = s.sr ∧ SameControl s t ∧ SameHidden s t ∧ Moved s t
        ∧ SameAcc s t ∧ SameFpu s t ∧ SameMem s t))
    ∧ (s.fd = false →
      exec (.ldsFpul m) s = .next { s.advance with fpul := s.r m }
      ∧ exec (.ldsFpscr m) s = .next { s.advance with fpscr := s.r m &&& 0x003C0003 })

/-- A push stores below the register and leaves the address there; with n = m the old value is stored
(20_memory.md R103; 43_group4_shift_sysreg.md R299). What the handler of region 7 answers and what it has seen is
the model's choice (log 45). -/
def Obligations.PushResults : Prop :=
  ∀ (s : State) (n m : Reg) (k : BankReg), Memory.wf s.mem = true →
    PushResult (.movBPush n m) s .b n (s.r m) ∧ PushResult (.movWPush n m) s .w n (s.r m)
    ∧ PushResult (.movLPush n m) s .l n (s.r m)
    ∧ PushResult (.stslMach n) s .l n s.mach ∧ PushResult (.stslMacl n) s .l n s.macl
    ∧ PushResult (.stslPr n) s .l n s.pr ∧ PushResult (.stclGbr n) s .l n s.gbr
    ∧ (s.md = true →
      PushResult (.stclSr n) s .l n s.sr ∧ PushResult (.stclVbr n) s .l n s.vbr
      ∧ PushResult (.stclSsr n) s .l n s.ssr ∧ PushResult (.stclSpc n) s .l n s.spc
      ∧ PushResult (.stclSgr n) s .l n s.sgr
      ∧ PushResult (.stclBank n k) s .l n (if s.onB then bankGet s.bankA k else bankGet s.bankB k))
    ∧ (s.fd = false → PushResult (.stslFpul n) s .l n s.fpul ∧ PushResult (.stslFpscr n) s .l n s.fpscr)

/-- A pop reads the long, steps the register under the bank mapping before the write, and writes the special
register, SR and FPSCR through their masks (10_state.md R53; R299). What the handler of region 7 answers and what
it has seen is the model's choice (log 45). -/
def Obligations.PopResults : Prop :=
  ∀ (s : State) (m : Reg),
    PopResult (.ldslMach m) s m (fun t v => { t with mach := v })
    ∧ PopResult (.ldslMacl m) s m (fun t v => { t with macl := v })
    ∧ PopResult (.ldslPr m) s m (fun t v => { t with pr := v })
    ∧ PopResult (.ldclGbr m) s m (fun t v => { t with gbr := v })
    ∧ (s.md = true →
      PopResult (.ldclSr m) s m (fun t v => { t with sr := v &&& 0x700083F3 })
      ∧ PopResult (.ldclVbr m) s m (fun t v => { t with vbr := v })
      ∧ PopResult (.ldclSsr m) s m (fun t v => { t with ssr := v })
      ∧ PopResult (.ldclSpc m) s m (fun t v => { t with spc := v })
      ∧ PopResult (.ldclSgr m) s m (fun t v => { t with sgr := v })
      ∧ (∀ (nb : BankReg) (p : Place), s.check .read .l (s.r m) = .ok p →
        Completes (.ldclBank m nb) s fun t =>
          (∀ j, t.r j = if j = m then s.r m + 4 else s.r j)
          ∧ (∀ k, t.other k = if k = nb then s.valueAt s.cfg.endianLocal .l p else s.other k)
          ∧ t.sr = s.sr ∧ SameControl s t ∧ SameHidden (s.noteRead .l p) t ∧ Moved s t
          ∧ SameAcc s t ∧ SameFpu s t ∧ SameMem s t))
    ∧ (s.fd = false →
      PopResult (.ldslFpul m) s m (fun t v => { t with fpul := v })
      ∧ PopResult (.ldslFpscr m) s m (fun t v => { t with fpscr := v &&& 0x003C0003 }))

/-! ### Memory instructions -/

/-- The stores: the bytes at the address the addressing mode computes hold the register's low bits, and nothing
else changes (20_memory.md R96, R101, R104 to R106). What the handler of region 7 answers and what it has seen is
the model's choice (log 45). -/
def Obligations.StoreResults : Prop :=
  ∀ (s : State) (n m : Reg) (d : Nibble) (g : BitVec 8), Memory.wf s.mem = true →
    StoreResult (.movBStore n m) s .b (s.r n) (s.r m) ∧ StoreResult (.movWStore n m) s .w (s.r n) (s.r m)
    ∧ StoreResult (.movLStore n m) s .l (s.r n) (s.r m) ∧ StoreResult (.movcaL n) s .l (s.r n) (s.r 0)
    ∧ StoreResult (.movBStoreIdx n m) s .b (s.r 0 + s.r n) (s.r m)
    ∧ StoreResult (.movWStoreIdx n m) s .w (s.r 0 + s.r n) (s.r m)
    ∧ StoreResult (.movLStoreIdx n m) s .l (s.r 0 + s.r n) (s.r m)
    ∧ StoreResult (.movBStoreDisp n d) s .b (s.r n + d.setWidth 32) (s.r 0)
    ∧ StoreResult (.movWStoreDisp n d) s .w (s.r n + 2 * d.setWidth 32) (s.r 0)
    ∧ StoreResult (.movLStoreDisp n m d) s .l (s.r n + 4 * d.setWidth 32) (s.r m)
    ∧ StoreResult (.movBStoreGbr g) s .b (s.gbr + g.setWidth 32) (s.r 0)
    ∧ StoreResult (.movWStoreGbr g) s .w (s.gbr + 2 * g.setWidth 32) (s.r 0)
    ∧ StoreResult (.movLStoreGbr g) s .l (s.gbr + 4 * g.setWidth 32) (s.r 0)

/-- The loads: the destination holds the sign-extended value at the address the addressing mode computes, and
nothing else changes but the stepped address register of a post-increment, over which a loaded value wins when n =
m (R94, R95, R101, R102, R104 to R106). What the handler of region 7 answers and what it has seen is the model's
choice (log 45). -/
def Obligations.LoadResults : Prop :=
  ∀ (s : State) (n m : Reg) (d : Nibble) (g : BitVec 8),
    LoadResult (.movBLoad n m) s .b sextByte (s.r m) n ∧ LoadResult (.movWLoad n m) s .w sextHalf (s.r m) n
    ∧ LoadResult (.movLLoad n m) s .l id (s.r m) n
    ∧ LoadResult (.movBLoadIdx n m) s .b sextByte (s.r 0 + s.r m) n
    ∧ LoadResult (.movWLoadIdx n m) s .w sextHalf (s.r 0 + s.r m) n
    ∧ LoadResult (.movLLoadIdx n m) s .l id (s.r 0 + s.r m) n
    ∧ LoadResult (.movBLoadDisp m d) s .b sextByte (s.r m + d.setWidth 32) 0
    ∧ LoadResult (.movWLoadDisp m d) s .w sextHalf (s.r m + 2 * d.setWidth 32) 0
    ∧ LoadResult (.movLLoadDisp n m d) s .l id (s.r m + 4 * d.setWidth 32) n
    ∧ LoadResult (.movBLoadGbr g) s .b sextByte (s.gbr + g.setWidth 32) 0
    ∧ LoadResult (.movWLoadGbr g) s .w sextHalf (s.gbr + 2 * g.setWidth 32) 0
    ∧ LoadResult (.movLLoadGbr g) s .l id (s.gbr + 4 * g.setWidth 32) 0
    ∧ LoadIncResult (.movBLoadInc n m) s .b sextByte n m ∧ LoadIncResult (.movWLoadInc n m) s .w sextHalf n m
    ∧ LoadIncResult (.movLLoadInc n m) s .l id n m

/-- The read-modify-writes of a byte: `TAS.B` sets bit 7 and T if the byte was zero, `AND.B`, `XOR.B`, `OR.B`
change the byte at GBR + R0, `TST.B` only tests it. `CAS.L`: the old long goes to the destination; if it equalled
the comparand the exchange is made and T is 1, else memory is as before and T is 0 (R292, R357 to R360, R205).
What the handler of region 7 answers and what it has seen is the model's choice (log 45). -/
def Obligations.ReadModifyWriteResults : Prop :=
  ∀ (s : State) (n m : Reg) (imm : BitVec 8) (p q : Place), Memory.wf s.mem = true →
    let byte := s.valueAt s.cfg.endianLocal .b q
    let long := s.valueAt s.cfg.endianLocal .l q
    let u := s.noteRead .b q
    let u' := s.noteRead .l q
    (s.check .write .b (s.r m) = .ok p → s.check .read .b (s.r m) = .ok q →
      Completes (.tasB m) s fun t =>
        t.t = decide (byte = 0) ∧ Stores u t .b p (byte ||| 0x80) [] [0])
    ∧ (s.check .read .b (s.gbr + s.r 0) = .ok q →
      Completes (.tstBGbr imm) s fun t => WritesFlag u t (decide (byte &&& imm.setWidth 32 = 0)))
    ∧ (s.check .write .b (s.gbr + s.r 0) = .ok p → s.check .read .b (s.gbr + s.r 0) = .ok q →
      (Completes (.andBGbr imm) s fun t => Stores u t .b p (byte &&& imm.setWidth 32) [] [])
      ∧ (Completes (.xorBGbr imm) s fun t => Stores u t .b p (byte ^^^ imm.setWidth 32) [] [])
      ∧ (Completes (.orBGbr imm) s fun t => Stores u t .b p (byte ||| imm.setWidth 32) [] []))
    ∧ (s.check .write .l (s.r 0) = .ok p → s.check .read .l (s.r 0) = .ok q →
      (long = s.r m → Completes (.casL n m) s fun t =>
        t.r n = s.r m ∧ t.t = true ∧ Stores u' t .l p (s.r n) [n] [0])
      ∧ (long ≠ s.r m → Completes (.casL n m) s fun t => WritesRegT u' t n long false))

/-- A narrower load after a long store sees exactly the bytes at its address, in either byte order
(20_memory.md R91). -/
def Obligations.NarrowLoadAfterStore : Prop :=
  ∀ (s : State) (loc : Nat) (v : Word), Memory.wf s.mem = true → loc + 4 ≤ 2 ^ 32 →
    loadAt s.cfg.endianLocal .l (s.storeAt .l loc v).mem loc = v
    ∧ (s.cfg.endianLocal = .little →
      (∀ k, k < 4 → loadAt .little .b (s.storeAt .l loc v).mem (loc + k) = (v >>> (8 * k)) &&& 0xFF)
      ∧ loadAt .little .w (s.storeAt .l loc v).mem loc = v &&& 0xFFFF
      ∧ loadAt .little .w (s.storeAt .l loc v).mem (loc + 2) = v >>> 16)
    ∧ (s.cfg.endianLocal = .big →
      (∀ k, k < 4 → loadAt .big .b (s.storeAt .l loc v).mem (loc + k) = (v >>> (24 - 8 * k)) &&& 0xFF)
      ∧ loadAt .big .w (s.storeAt .l loc v).mem loc = v >>> 16
      ∧ loadAt .big .w (s.storeAt .l loc v).mem (loc + 2) = v &&& 0xFFFF)

/-! ### Branches and PC-relative instructions -/

/-- The branches, outside a delay slot: target, link and delay slot, and nothing else
(45_group8_9_A_B_disp_branch.md R330 to R333, R336, R337; R167, R170, R189, R287, R288). -/
def Obligations.BranchResults : Prop :=
  ∀ (s : State) (m : Reg) (d : BitVec 8) (l : BitVec 12), s.slot = none →
    exec (.bra l) s = .next { s with slot := some ⟨s.pc + 4 + l.signExtend 32 * 2, none⟩, pc := s.pc + 2 }
    ∧ exec (.bsr l) s = .next { s with
        slot := some ⟨s.pc + 4 + l.signExtend 32 * 2, none⟩, pc := s.pc + 2, pr := s.pc + 4 }
    ∧ exec (.bsaf m) s = .next { s with slot := some ⟨s.pc + 4 + s.r m, none⟩, pc := s.pc + 2 }
    ∧ exec (.bsrf m) s = .next { s with
        slot := some ⟨s.pc + 4 + s.r m, none⟩, pc := s.pc + 2, pr := s.pc + 4 }
    ∧ exec (.jmp m) s = .next { s with slot := some ⟨s.r m, none⟩, pc := s.pc + 2 }
    ∧ exec (.jsr m) s = .next { s with slot := some ⟨s.r m, none⟩, pc := s.pc + 2, pr := s.pc + 4 }
    ∧ exec .rts s = .next { s with slot := some ⟨s.pr, none⟩, pc := s.pc + 2 }
    ∧ exec (.bts d) s = .next { s with
        slot := some ⟨if s.t then s.pc + 4 + d.signExtend 32 * 2 else s.pc + 4, none⟩, pc := s.pc + 2 }
    ∧ exec (.bfs d) s = .next { s with
        slot := some ⟨if s.t then s.pc + 4 else s.pc + 4 + d.signExtend 32 * 2, none⟩, pc := s.pc + 2 }
    ∧ exec (.bt d) s = .next { s with pc := if s.t then s.pc + 4 + d.signExtend 32 * 2 else s.pc + 2 }
    ∧ exec (.bf d) s = .next { s with pc := if s.t then s.pc + 2 else s.pc + 4 + d.signExtend 32 * 2 }

/-- The PC-relative loads, in the machine byte order, `MOVA`, and `MOVI24`, outside a delay slot (20_memory.md
R90, R108; R335, R361, R352, R410). What the handler of region 7 answers and what it has seen is the model's
choice (log 45). -/
def Obligations.PcRelativeResults : Prop :=
  ∀ (s : State) (n : Reg) (d : BitVec 8) (imm : BitVec 24), s.slot = none →
    (∀ p, s.check .read .w (s.pc + 4 + 2 * d.setWidth 32) = .ok p →
      Completes (.movWLoadPc n d) s fun t =>
        WritesReg (s.noteRead .w p) t n (sextHalf (s.valueAt s.cfg.endian .w p)))
    ∧ (∀ p, s.check .read .l (((s.pc + 4) &&& 0xFFFFFFFC) + 4 * d.setWidth 32) = .ok p →
      Completes (.movLLoadPc n d) s fun t =>
        WritesReg (s.noteRead .l p) t n (s.valueAt s.cfg.endian .l p))
    ∧ RegResult (.mova d) s 0 (((s.pc + 4) &&& 0xFFFFFFFC) + 4 * d.setWidth 32)
    ∧ exec (.movi24 imm) s = .next { s.setR 0
        (if s.cfg.movi24Signed then imm.signExtend 32 else imm.setWidth 32) with pc := s.pc + 4 }

/-! ### The FPU -/

/-- The `FMOV` forms, for FPSCR.SZ = 0 and 1, an odd field naming a pair of the back bank (47_groupF_fpu.md R369,
R376 to R382). What the handler of region 7 answers and what it has seen is the model's choice (log 45). -/
def Obligations.FmovResults : Prop :=
  ∀ (s : State) (n m : Reg) (f g : FReg), s.fd = false → Memory.wf s.mem = true →
    FmovLoadResult (.fmovLoad f m) s f (s.r m) [] (fun _ => True)
    ∧ FmovLoadResult (.fmovLoadIdx f m) s f (s.r 0 + s.r m) [] (fun _ => True)
    ∧ FmovLoadResult (.fmovLoadInc f m) s f (s.r m) [m]
        (fun t => t.r m = s.r m + if s.sz then 8 else 4)
    ∧ FmovStoreResult (.fmovStore n g) s g (s.r n) [] (fun _ => True)
    ∧ FmovStoreResult (.fmovStoreIdx n g) s g (s.r 0 + s.r n) [] (fun _ => True)
    ∧ FmovStoreResult (.fmovPush n g) s g (s.r n - if s.sz then 8 else 4) [n]
        (fun t => t.r n = s.r n - if s.sz then 8 else 4)
    ∧ (s.sz = false → FrResult (.fmovR f g) s f (s.fr g))
    ∧ (s.sz = true → Completes (.fmovR f g) s fun t =>
        t.pair f = s.pair g ∧ FpuFrame s t [(s.pairBank f, evenReg f), (s.pairBank f, oddReg f)] [])

/-- The FPU instructions that copy, set or flip bits (R383, R384, R387, R388, R390, R391, R394). -/
def Obligations.FpuBitResults : Prop :=
  ∀ (s : State) (n : FReg), s.fd = false →
    FrResult (.fsts n) s n s.fpul ∧ FpulResult (.flds n) s (s.fr n)
    ∧ FrResult (.fneg n) s n (s.fr n ^^^ 0x80000000) ∧ FrResult (.fabs n) s n (s.fr n &&& 0x7FFFFFFF)
    ∧ (s.double = false → FrResult (.fldi0 n) s n 0 ∧ FrResult (.fldi1 n) s n 0x3F800000)
    ∧ (Completes .fschg s fun t => t.fpscr = s.fpscr ^^^ 0x00100000
        ∧ (∀ b g, t.fb b g = s.fb b g) ∧ t.fpul = s.fpul ∧ Frame s t [] [] ∧ SameAcc s t ∧ SameMem s t)

/-- The FPU arithmetic completes for every operand value, with the `FPNUM` function's result in the register, the pair,
FPUL or T, and nothing else changed: no operand value traps (R367, R370 to R375, R385, R386, R389, R392, R393, R395).
That under another instance than FPNUM_IEEE a rounding instruction completes with RM = 2 or 3 too, with a free value
(log 15), that `FMAC` rounds once and where a result is flushed (log 16), and on which operands the compares of every
instance agree (log 17), are the model's choices. -/
def Obligations.FpuArithmeticResults : Prop :=
  ∀ (s : State) (n m : FReg), s.fd = false →
    (s.double = false →
      (s.RoundingRuns →
        FrResult (.fadd n m) s n ((fpBinary s fmtSingle .add32 fpAdd ((s.fr n).setWidth 64)
          ((s.fr m).setWidth 64)).setWidth 32)
        ∧ FrResult (.fsub n m) s n ((fpBinary s fmtSingle .sub32 fpSub ((s.fr n).setWidth 64)
          ((s.fr m).setWidth 64)).setWidth 32)
        ∧ FrResult (.fmul n m) s n ((fpBinary s fmtSingle .mul32 fpMul ((s.fr n).setWidth 64)
          ((s.fr m).setWidth 64)).setWidth 32)
        ∧ FrResult (.fdiv n m) s n ((fpBinary s fmtSingle .div32 (fpDiv fmtSingle) ((s.fr n).setWidth 64)
          ((s.fr m).setWidth 64)).setWidth 32)
        ∧ FrResult (.fsqrt n) s n
          ((fpUnary s fmtSingle .sqrt32 (fpSqrt fmtSingle) ((s.fr n).setWidth 64)).setWidth 32)
        ∧ FrResult (.fmac n m) s n (fpMac s (s.fr 0) (s.fr m) (s.fr n))
        ∧ FrResult (.float n) s n (fpFloat32 s s.fpul))
      ∧ FpulResult (.ftrc n) s (fpTrc s fmtSingle .trc32 ((s.fr n).setWidth 64))
      ∧ FlagResult (.fcmpeq n m) s
        (fpCompare s fmtSingle .eq32 fpEq ((s.fr n).setWidth 64) ((s.fr m).setWidth 64))
      ∧ FlagResult (.fcmpgt n m) s
        (fpCompare s fmtSingle .gt32 fpGt ((s.fr n).setWidth 64) ((s.fr m).setWidth 64)))
    ∧ (s.double = true → n.getLsbD 0 = false → m.getLsbD 0 = false →
      (s.RoundingRuns →
        DrResult (.fadd n m) s n (fpBinary s fmtDouble .add64 fpAdd (s.dr n) (s.dr m))
        ∧ DrResult (.fsub n m) s n (fpBinary s fmtDouble .sub64 fpSub (s.dr n) (s.dr m))
        ∧ DrResult (.fmul n m) s n (fpBinary s fmtDouble .mul64 fpMul (s.dr n) (s.dr m))
        ∧ DrResult (.fdiv n m) s n (fpBinary s fmtDouble .div64 (fpDiv fmtDouble) (s.dr n) (s.dr m))
        ∧ DrResult (.fsqrt n) s n (fpUnary s fmtDouble .sqrt64 (fpSqrt fmtDouble) (s.dr n))
        ∧ FpulResult (.fcnvds n) s (fpCnvds s (s.dr n)))
      ∧ DrResult (.float n) s n (fpFloat64 s.fpul) ∧ FpulResult (.ftrc n) s (fpTrc s fmtDouble .trc64 (s.dr n))
      ∧ DrResult (.fcnvsd n) s n (fpCnvsd s s.fpul)
      ∧ FlagResult (.fcmpeq n m) s (fpCompare s fmtDouble .eq64 fpEq (s.dr n) (s.dr m))
      ∧ FlagResult (.fcmpgt n m) s (fpCompare s fmtDouble .gt64 fpGt (s.dr n) (s.dr m)))

/-- The sum, difference and product of finite values are exact, the compares are those of the exact values, and the
truncation to an integer is that of the exact value, clamped to 32 bits, 0x80000000 for a NaN. The double of an integer
and, under FPNUM_IEEE, of a single hold exactly its value; the single of an integer depends on the instance, RM and the
integer alone, under every instance (R366, R385, R386, R392). -/
def Obligations.FpExactOperations : Prop :=
  (∀ (a b : FpVal) (x y : ℚ), a.toRat = some x → b.toRat = some y →
    (fpAdd a b).toRat = some (x + y) ∧ (fpSub a b).toRat = some (x - y)
    ∧ (fpMul a b).toRat = some (x * y)
    ∧ (fpEq a b = true ↔ x = y) ∧ (fpGt a b = true ↔ y < x))
  ∧ (∀ (a : FpVal) (x : ℚ), a.toRat = some x →
    (fpToInt a).toInt = max (-2 ^ 31) (min (2 ^ 31 - 1) (truncRat x)))
  ∧ fpToInt .nan = 0x80000000 ∧ fpToInt (.inf false) = 0x7FFFFFFF ∧ fpToInt (.inf true) = 0x80000000
  ∧ (∀ (i : Word) (dn : Bool), (fpUnpack fmtDouble dn (fpFloat64 i).toNat).toRat = some (i.toInt : ℚ))
  ∧ (∀ (s t : State) (i : Word), t.cfg.fpnum = s.cfg.fpnum → t.rm = s.rm → fpFloat32 t i = fpFloat32 s i)
  ∧ (∀ (s : State) (a : Word) (x : ℚ), s.cfg.fpnum = .ieee →
    (s.fpIn fmtSingle (a.setWidth 64)).toRat = some x →
    (fpUnpack fmtDouble s.dn (fpCnvsd s a).toNat).toRat = some x)

/-- Rounding a value that is a nonzero normal number of the format changes nothing: the pattern is in the format and
holds that value, under either rounding and either DN (R366). -/
def Obligations.FpRoundExact : Prop :=
  ∀ (f : FpFormat) (toZero dn dn' : Bool) (v : FpVal), f = fmtSingle ∨ f = fmtDouble →
    fpExactNormal f v = true →
    fpRound f toZero dn v < 2 ^ (1 + f.expBits + f.fracBits)
    ∧ (fpUnpack f dn' (fpRound f toZero dn v)).toRat = v.toRat

/-- Every `FPNUM` instance gives the rounded exact result where the instances agree, with RM 0 or 1: plain
operands and a nonzero normal result representable without rounding. FPNUM_IEEE gives it for every operand (R366).
The model's choices: with DN = 1 every rounding operation flushes after it rounds, and `FMAC` rounds once (log
16); the compares of zeros and of normal numbers agree under every instance (log 17). -/
def Obligations.FpuAgreedResult : Prop :=
  ∀ (s : State), s.rm = 0 ∨ s.rm = 1 →
    (∀ (f : FpFormat) (op : FpOp) (g : FpVal → FpVal → FpVal) (a b : BitVec 64),
      (s.cfg.fpnum = .ieee ∨ (fpPlain f a.toNat = true ∧ fpPlain f b.toNat = true
        ∧ fpExactNormal f (g (s.fpIn f a) (s.fpIn f b)) = true)) →
      fpBinary s f op g a b =
        BitVec.ofNat 64 (fpRound f (decide (s.rm = 1)) s.dn (g (s.fpIn f a) (s.fpIn f b))))
    ∧ (∀ (f : FpFormat) (op : FpOp) (g : FpVal → FpVal) (a : BitVec 64),
      (s.cfg.fpnum = .ieee ∨ (fpPlain f a.toNat = true ∧ fpExactNormal f (g (s.fpIn f a)) = true)) →
      fpUnary s f op g a = BitVec.ofNat 64 (fpRound f (decide (s.rm = 1)) s.dn (g (s.fpIn f a))))
    ∧ (∀ (a b c : Word), s.cfg.fpnum = .ieee →
      fpMac s a b c = BitVec.ofNat 32 (fpRound fmtSingle (decide (s.rm = 1)) s.dn
        (fpAdd (fpMul (s.fpIn fmtSingle (a.setWidth 64)) (s.fpIn fmtSingle (b.setWidth 64)))
          (s.fpIn fmtSingle (c.setWidth 64)))))
    ∧ (∀ (i : Word) (dn : Bool), (s.cfg.fpnum = .ieee ∨ i = 0 ∨ fpExactNormal fmtSingle (fpOfInt i) = true) →
      fpFloat32 s i = BitVec.ofNat 32 (fpRound fmtSingle (decide (s.rm = 1)) dn (fpOfInt i))
      ∧ (fpOfInt i).toRat = some (i.toInt : ℚ))
    ∧ (∀ (a : BitVec 64),
      (s.cfg.fpnum = .ieee ∨ (fpPlain fmtDouble a.toNat = true
        ∧ fpExactNormal fmtSingle (s.fpIn fmtDouble a) = true)) →
      fpCnvds s a = BitVec.ofNat 32 (fpRound fmtSingle (decide (s.rm = 1)) s.dn (s.fpIn fmtDouble a)))
    ∧ (∀ (a : Word), (s.cfg.fpnum = .ieee ∨ (fpPlain fmtSingle a.toNat = true
        ∧ fpExactNormal fmtDouble (s.fpIn fmtSingle (a.setWidth 64)) = true)) →
      fpCnvsd s a = BitVec.ofNat 64 (fpRound fmtDouble true false (s.fpIn fmtSingle (a.setWidth 64))))
    ∧ (∀ (f : FpFormat) (op : FpOp) (g : FpVal → FpVal → Bool) (a b : BitVec 64),
      (s.cfg.fpnum = .ieee ∨ (fpPlain f a.toNat = true ∧ fpPlain f b.toNat = true)) →
      fpCompare s f op g a b = g (s.fpIn f a) (s.fpIn f b))
    ∧ (∀ (f : FpFormat) (op : FpOp) (a : BitVec 64),
      (s.cfg.fpnum = .ieee ∨ fpIntExact (s.fpIn f a) = true) →
      fpTrc s f op a = fpToInt (s.fpIn f a))

/-- Rounding is IEEE 754's, to nearest with ties to even and toward zero, of every finite value that is not zero;
the quotient and the square root carry enough of their exact values for theirs to round as those do; zeros,
infinities and NaNs keep to the patterns R366 gives, and a division by zero and the root of a negative number to
IEEE 754's answers (R63, R64, R366). That with DN = 1 a result is flushed after rounding, by its rounded pattern,
is the model's choice (log 16). -/
def Obligations.FpRounding : Prop :=
  ∀ (f : FpFormat) (toZero dn : Bool), f = fmtSingle ∨ f = fmtDouble →
    (∀ (neg : Bool) (m : Nat) (e : Int), m ≠ 0 →
      f.Rounds toZero dn neg ((m : ℝ) * (2 : ℝ) ^ e) (fpRound f toZero dn (.fin neg m e)))
    ∧ (∀ (u v : Nat) (a b : Bool) (m n : Nat) (e g : Int), fpUnpack f dn u = .fin a m e →
      fpUnpack f dn v = .fin b n g →
      (m ≠ 0 → n ≠ 0 → f.Rounds toZero dn (a ^^ b) (((m : ℝ) * (2 : ℝ) ^ e) / ((n : ℝ) * (2 : ℝ) ^ g))
        (fpRound f toZero dn (fpDiv f (.fin a m e) (.fin b n g))))
      ∧ (m ≠ 0 → n = 0 → fpRound f toZero dn (fpDiv f (.fin a m e) (.fin b n g)) = f.signBit (a ^^ b) + f.infinity)
      ∧ (m = 0 → n ≠ 0 → fpRound f toZero dn (fpDiv f (.fin a m e) (.fin b n g)) = f.signBit (a ^^ b))
      ∧ (m = 0 → n = 0 → fpRound f toZero dn (fpDiv f (.fin a m e) (.fin b n g)) = f.nan))
    ∧ (∀ (u : Nat) (neg : Bool) (m : Nat) (e : Int), fpUnpack f dn u = .fin neg m e →
      (m ≠ 0 → neg = false →
        f.Rounds toZero dn false (Real.sqrt ((m : ℝ) * (2 : ℝ) ^ e))
          (fpRound f toZero dn (fpSqrt f (.fin neg m e))))
      ∧ (m ≠ 0 → neg = true → fpRound f toZero dn (fpSqrt f (.fin neg m e)) = f.nan)
      ∧ (m = 0 → fpRound f toZero dn (fpSqrt f (.fin neg m e)) = f.signBit neg))
    ∧ (∀ (neg : Bool) (e : Int), fpRound f toZero dn (.fin neg 0 e) = f.signBit neg)
    ∧ (∀ (neg : Bool), fpRound f toZero dn (.inf neg) = f.signBit neg + f.infinity)
    ∧ fpRound fmtSingle toZero dn .nan = 0x7FBFFFFF ∧ fpRound fmtDouble toZero dn .nan = 0x7FF7FFFFFFFFFFFF

/-! ### Super-ops -/

/-- A super-op, outside a delay slot, does what its two component instructions do one after the other; the compare forms
leave the result in T and branch on it from the second word (48_ext_superops_32bit.md R414 to R416). That they are
constructors, never decoded, is the model's choice (log 27). -/
def Obligations.SuperOpResults : Prop :=
  ∀ (s : State) (n m : Reg) (d : BitVec 8), s.slot = none →
    (∀ p ∈ [(Instr.cmpbeq n m d, Instr.cmpeqR n m, Instr.bt d), (.cmpbne n m d, .cmpeqR n m, .bf d),
        (.cmpbge n m d, .cmpge n m, .bt d), (.cmpblt n m d, .cmpge n m, .bf d),
        (.cmpbgt n m d, .cmpgt n m, .bt d), (.cmpble n m d, .cmpgt n m, .bf d),
        (.shadImm n m d, .movI m d, .shad n m), (.shldImm n m d, .movI m d, .shld n m)],
      ∃ u t, exec p.2.1 s = .next u ∧ exec p.2.2 u = .next t ∧ exec p.1 s = .next t)
    ∧ (Completes (.cmpbne n m d) s fun t => t.t = decide (s.r n = s.r m)
        ∧ t.pc = if s.r n = s.r m then s.pc + 4 else s.pc + 6 + d.signExtend 32 * 2)
    ∧ (m ≠ n → Completes (.shadImm n m d) s fun t => t.r m = d.signExtend 32 ∧ t.pc = s.pc + 4)
end

