-- ==== Sys2Proof/Laws/Dispatch.lean ====
section
/-! SUPPORT. The arms of `exec`, one lemma each, so that no proof unfolds the whole table. -/

namespace Sys2Proof.Machine

variable (s : State)

@[simp] theorem exec_stcSr (n : Reg) :
    exec (.stcSr n) s = execStcSr n s := rfl
@[simp] theorem exec_stcGbr (n : Reg) :
    exec (.stcGbr n) s = execStcGbr n s := rfl
@[simp] theorem exec_stcVbr (n : Reg) :
    exec (.stcVbr n) s = execStcVbr n s := rfl
@[simp] theorem exec_stcSsr (n : Reg) :
    exec (.stcSsr n) s = execStcSsr n s := rfl
@[simp] theorem exec_stcSpc (n : Reg) :
    exec (.stcSpc n) s = execStcSpc n s := rfl
@[simp] theorem exec_stcUnk052 (n : Reg) :
    exec (.stcUnk052 n) s = execStcUnk052 n s := rfl
@[simp] theorem exec_stcBank (n : Reg) (mb : BankReg) :
    exec (.stcBank n mb) s = execStcBank n mb s := rfl
@[simp] theorem exec_bsrf (m : Reg) :
    exec (.bsrf m) s = execBsrf m s := rfl
@[simp] theorem exec_bsaf (m : Reg) :
    exec (.bsaf m) s = execBsaf m s := rfl
@[simp] theorem exec_movliL (n : Reg) :
    exec (.movliL n) s = execMovliL n s := rfl
@[simp] theorem exec_movcoL (n : Reg) :
    exec (.movcoL n) s = execMovcoL n s := rfl
@[simp] theorem exec_pref (n : Reg) :
    exec (.pref n) s = execPref n s := rfl
@[simp] theorem exec_ocbi (n : Reg) :
    exec (.ocbi n) s = execOcbi n s := rfl
@[simp] theorem exec_ocbp (n : Reg) :
    exec (.ocbp n) s = execOcbp n s := rfl
@[simp] theorem exec_ocbwb (n : Reg) :
    exec (.ocbwb n) s = execOcbwb n s := rfl
@[simp] theorem exec_movcaL (n : Reg) :
    exec (.movcaL n) s = execMovcaL n s := rfl
@[simp] theorem exec_icbi (n : Reg) :
    exec (.icbi n) s = execIcbi n s := rfl
@[simp] theorem exec_movBStoreIdx (n : Reg) (m : Reg) :
    exec (.movBStoreIdx n m) s = execMovBStoreIdx n m s := rfl
@[simp] theorem exec_movWStoreIdx (n : Reg) (m : Reg) :
    exec (.movWStoreIdx n m) s = execMovWStoreIdx n m s := rfl
@[simp] theorem exec_movLStoreIdx (n : Reg) (m : Reg) :
    exec (.movLStoreIdx n m) s = execMovLStoreIdx n m s := rfl
@[simp] theorem exec_mulL (n : Reg) (m : Reg) :
    exec (.mulL n m) s = execMulL n m s := rfl
@[simp] theorem exec_movt (n : Reg) :
    exec (.movt n) s = execMovt n s := rfl
@[simp] theorem exec_movrt (n : Reg) :
    exec (.movrt n) s = execMovrt n s := rfl
@[simp] theorem exec_movuaL0 (m : Reg) :
    exec (.movuaL0 m) s = execMovuaL0 m s := rfl
@[simp] theorem exec_movuaLInc0 (m : Reg) :
    exec (.movuaLInc0 m) s = execMovuaLInc0 m s := rfl
@[simp] theorem exec_stsMach (n : Reg) :
    exec (.stsMach n) s = execStsMach n s := rfl
@[simp] theorem exec_stsMacl (n : Reg) :
    exec (.stsMacl n) s = execStsMacl n s := rfl
@[simp] theorem exec_stsPr (n : Reg) :
    exec (.stsPr n) s = execStsPr n s := rfl
@[simp] theorem exec_stcSgr (n : Reg) :
    exec (.stcSgr n) s = execStcSgr n s := rfl
@[simp] theorem exec_stcUnk04A (n : Reg) :
    exec (.stcUnk04A n) s = execStcUnk04A n s := rfl
@[simp] theorem exec_stsFpul (n : Reg) :
    exec (.stsFpul n) s = execStsFpul n s := rfl
@[simp] theorem exec_stsFpscr (n : Reg) :
    exec (.stsFpscr n) s = execStsFpscr n s := rfl
@[simp] theorem exec_rtvN (m : Reg) :
    exec (.rtvN m) s = execRtvN m s := rfl
@[simp] theorem exec_movBLoadIdx (n : Reg) (m : Reg) :
    exec (.movBLoadIdx n m) s = execMovBLoadIdx n m s := rfl
@[simp] theorem exec_movWLoadIdx (n : Reg) (m : Reg) :
    exec (.movWLoadIdx n m) s = execMovWLoadIdx n m s := rfl
@[simp] theorem exec_movLLoadIdx (n : Reg) (m : Reg) :
    exec (.movLLoadIdx n m) s = execMovLLoadIdx n m s := rfl
@[simp] theorem exec_macL (n : Reg) (m : Reg) :
    exec (.macL n m) s = execMacL n m s := rfl
@[simp] theorem exec_movLStoreDisp (n : Reg) (m : Reg) (disp : Nibble) :
    exec (.movLStoreDisp n m disp) s = execMovLStoreDisp n m disp s := rfl
@[simp] theorem exec_movBStore (n : Reg) (m : Reg) :
    exec (.movBStore n m) s = execMovBStore n m s := rfl
@[simp] theorem exec_movWStore (n : Reg) (m : Reg) :
    exec (.movWStore n m) s = execMovWStore n m s := rfl
@[simp] theorem exec_movLStore (n : Reg) (m : Reg) :
    exec (.movLStore n m) s = execMovLStore n m s := rfl
@[simp] theorem exec_casL (n : Reg) (m : Reg) :
    exec (.casL n m) s = execCasL n m s := rfl
@[simp] theorem exec_movBPush (n : Reg) (m : Reg) :
    exec (.movBPush n m) s = execMovBPush n m s := rfl
@[simp] theorem exec_movWPush (n : Reg) (m : Reg) :
    exec (.movWPush n m) s = execMovWPush n m s := rfl
@[simp] theorem exec_movLPush (n : Reg) (m : Reg) :
    exec (.movLPush n m) s = execMovLPush n m s := rfl
@[simp] theorem exec_div0s (n : Reg) (m : Reg) :
    exec (.div0s n m) s = execDiv0s n m s := rfl
@[simp] theorem exec_tstR (n : Reg) (m : Reg) :
    exec (.tstR n m) s = execTstR n m s := rfl
@[simp] theorem exec_andR (n : Reg) (m : Reg) :
    exec (.andR n m) s = execAndR n m s := rfl
@[simp] theorem exec_xorR (n : Reg) (m : Reg) :
    exec (.xorR n m) s = execXorR n m s := rfl
@[simp] theorem exec_orR (n : Reg) (m : Reg) :
    exec (.orR n m) s = execOrR n m s := rfl
@[simp] theorem exec_cmpstr (n : Reg) (m : Reg) :
    exec (.cmpstr n m) s = execCmpstr n m s := rfl
@[simp] theorem exec_xtrct (n : Reg) (m : Reg) :
    exec (.xtrct n m) s = execXtrct n m s := rfl
@[simp] theorem exec_muluW (n : Reg) (m : Reg) :
    exec (.muluW n m) s = execMuluW n m s := rfl
@[simp] theorem exec_mulsW (n : Reg) (m : Reg) :
    exec (.mulsW n m) s = execMulsW n m s := rfl
@[simp] theorem exec_cmpeqR (n : Reg) (m : Reg) :
    exec (.cmpeqR n m) s = execCmpeqR n m s := rfl
@[simp] theorem exec_cmphs (n : Reg) (m : Reg) :
    exec (.cmphs n m) s = execCmphs n m s := rfl
@[simp] theorem exec_cmpge (n : Reg) (m : Reg) :
    exec (.cmpge n m) s = execCmpge n m s := rfl
@[simp] theorem exec_div1 (n : Reg) (m : Reg) :
    exec (.div1 n m) s = execDiv1 n m s := rfl
@[simp] theorem exec_dmuluL (n : Reg) (m : Reg) :
    exec (.dmuluL n m) s = execDmuluL n m s := rfl
@[simp] theorem exec_cmphi (n : Reg) (m : Reg) :
    exec (.cmphi n m) s = execCmphi n m s := rfl
@[simp] theorem exec_cmpgt (n : Reg) (m : Reg) :
    exec (.cmpgt n m) s = execCmpgt n m s := rfl
@[simp] theorem exec_subR (n : Reg) (m : Reg) :
    exec (.subR n m) s = execSubR n m s := rfl
@[simp] theorem exec_subc (n : Reg) (m : Reg) :
    exec (.subc n m) s = execSubc n m s := rfl
@[simp] theorem exec_subv (n : Reg) (m : Reg) :
    exec (.subv n m) s = execSubv n m s := rfl
@[simp] theorem exec_addR (n : Reg) (m : Reg) :
    exec (.addR n m) s = execAddR n m s := rfl
@[simp] theorem exec_dmulsL (n : Reg) (m : Reg) :
    exec (.dmulsL n m) s = execDmulsL n m s := rfl
@[simp] theorem exec_addc (n : Reg) (m : Reg) :
    exec (.addc n m) s = execAddc n m s := rfl
@[simp] theorem exec_addv (n : Reg) (m : Reg) :
    exec (.addv n m) s = execAddv n m s := rfl
@[simp] theorem exec_shll (n : Reg) :
    exec (.shll n) s = execShll n s := rfl
@[simp] theorem exec_dt (n : Reg) :
    exec (.dt n) s = execDt n s := rfl
@[simp] theorem exec_shal (n : Reg) :
    exec (.shal n) s = execShal n s := rfl
@[simp] theorem exec_mulr (n : Reg) :
    exec (.mulr n) s = execMulr n s := rfl
@[simp] theorem exec_movmuLPush (m : Reg) :
    exec (.movmuLPush m) s = execMovmuLPush m s := rfl
@[simp] theorem exec_shlr (n : Reg) :
    exec (.shlr n) s = execShlr n s := rfl
@[simp] theorem exec_cmppz (n : Reg) :
    exec (.cmppz n) s = execCmppz n s := rfl
@[simp] theorem exec_shar (n : Reg) :
    exec (.shar n) s = execShar n s := rfl
@[simp] theorem exec_clipuB (n : Reg) :
    exec (.clipuB n) s = execClipuB n s := rfl
@[simp] theorem exec_clipsB (n : Reg) :
    exec (.clipsB n) s = execClipsB n s := rfl
@[simp] theorem exec_stbank (n : Reg) :
    exec (.stbank n) s = execStbank n s := rfl
@[simp] theorem exec_movmlLPush (m : Reg) :
    exec (.movmlLPush m) s = execMovmlLPush m s := rfl
@[simp] theorem exec_stslMach (n : Reg) :
    exec (.stslMach n) s = execStslMach n s := rfl
@[simp] theorem exec_stslMacl (n : Reg) :
    exec (.stslMacl n) s = execStslMacl n s := rfl
@[simp] theorem exec_stslPr (n : Reg) :
    exec (.stslPr n) s = execStslPr n s := rfl
@[simp] theorem exec_stclSgr (n : Reg) :
    exec (.stclSgr n) s = execStclSgr n s := rfl
@[simp] theorem exec_stclUnk42 (n : Reg) :
    exec (.stclUnk42 n) s = execStclUnk42 n s := rfl
@[simp] theorem exec_stslFpul (n : Reg) :
    exec (.stslFpul n) s = execStslFpul n s := rfl
@[simp] theorem exec_stslFpscr (n : Reg) :
    exec (.stslFpscr n) s = execStslFpscr n s := rfl
@[simp] theorem exec_stclSr (n : Reg) :
    exec (.stclSr n) s = execStclSr n s := rfl
@[simp] theorem exec_stclGbr (n : Reg) :
    exec (.stclGbr n) s = execStclGbr n s := rfl
@[simp] theorem exec_stclVbr (n : Reg) :
    exec (.stclVbr n) s = execStclVbr n s := rfl
@[simp] theorem exec_stclSsr (n : Reg) :
    exec (.stclSsr n) s = execStclSsr n s := rfl
@[simp] theorem exec_stclSpc (n : Reg) :
    exec (.stclSpc n) s = execStclSpc n s := rfl
@[simp] theorem exec_stclUnk53 (n : Reg) :
    exec (.stclUnk53 n) s = execStclUnk53 n s := rfl
@[simp] theorem exec_stclBank (n : Reg) (mb : BankReg) :
    exec (.stclBank n mb) s = execStclBank n mb s := rfl
@[simp] theorem exec_rotl (n : Reg) :
    exec (.rotl n) s = execRotl n s := rfl
@[simp] theorem exec_rotcl (n : Reg) :
    exec (.rotcl n) s = execRotcl n s := rfl
@[simp] theorem exec_divu (n : Reg) :
    exec (.divu n) s = execDivu n s := rfl
@[simp] theorem exec_divs (n : Reg) :
    exec (.divs n) s = execDivs n s := rfl
@[simp] theorem exec_movmuLPop (n : Reg) :
    exec (.movmuLPop n) s = execMovmuLPop n s := rfl
@[simp] theorem exec_rotr (n : Reg) :
    exec (.rotr n) s = execRotr n s := rfl
@[simp] theorem exec_cmppl (n : Reg) :
    exec (.cmppl n) s = execCmppl n s := rfl
@[simp] theorem exec_rotcr (n : Reg) :
    exec (.rotcr n) s = execRotcr n s := rfl
@[simp] theorem exec_clipuW (n : Reg) :
    exec (.clipuW n) s = execClipuW n s := rfl
@[simp] theorem exec_clipsW (n : Reg) :
    exec (.clipsW n) s = execClipsW n s := rfl
@[simp] theorem exec_ldbank (m : Reg) :
    exec (.ldbank m) s = execLdbank m s := rfl
@[simp] theorem exec_movmlLPop (n : Reg) :
    exec (.movmlLPop n) s = execMovmlLPop n s := rfl
@[simp] theorem exec_ldslMach (m : Reg) :
    exec (.ldslMach m) s = execLdslMach m s := rfl
@[simp] theorem exec_ldslMacl (m : Reg) :
    exec (.ldslMacl m) s = execLdslMacl m s := rfl
@[simp] theorem exec_ldslPr (m : Reg) :
    exec (.ldslPr m) s = execLdslPr m s := rfl
@[simp] theorem exec_ldclSgr (m : Reg) :
    exec (.ldclSgr m) s = execLdclSgr m s := rfl
@[simp] theorem exec_ldclUnk46 (m : Reg) :
    exec (.ldclUnk46 m) s = execLdclUnk46 m s := rfl
@[simp] theorem exec_ldslFpul (m : Reg) :
    exec (.ldslFpul m) s = execLdslFpul m s := rfl
@[simp] theorem exec_ldslFpscr (m : Reg) :
    exec (.ldslFpscr m) s = execLdslFpscr m s := rfl
@[simp] theorem exec_ldclSr (m : Reg) :
    exec (.ldclSr m) s = execLdclSr m s := rfl
@[simp] theorem exec_ldclGbr (m : Reg) :
    exec (.ldclGbr m) s = execLdclGbr m s := rfl
@[simp] theorem exec_ldclVbr (m : Reg) :
    exec (.ldclVbr m) s = execLdclVbr m s := rfl
@[simp] theorem exec_ldclSsr (m : Reg) :
    exec (.ldclSsr m) s = execLdclSsr m s := rfl
@[simp] theorem exec_ldclSpc (m : Reg) :
    exec (.ldclSpc m) s = execLdclSpc m s := rfl
@[simp] theorem exec_ldclUnk57 (m : Reg) :
    exec (.ldclUnk57 m) s = execLdclUnk57 m s := rfl
@[simp] theorem exec_ldclBank (m : Reg) (nb : BankReg) :
    exec (.ldclBank m nb) s = execLdclBank m nb s := rfl
@[simp] theorem exec_shll2 (n : Reg) :
    exec (.shll2 n) s = execShll2 n s := rfl
@[simp] theorem exec_shll8 (n : Reg) :
    exec (.shll8 n) s = execShll8 n s := rfl
@[simp] theorem exec_shll16 (n : Reg) :
    exec (.shll16 n) s = execShll16 n s := rfl
@[simp] theorem exec_shlr2 (n : Reg) :
    exec (.shlr2 n) s = execShlr2 n s := rfl
@[simp] theorem exec_shlr8 (n : Reg) :
    exec (.shlr8 n) s = execShlr8 n s := rfl
@[simp] theorem exec_shlr16 (n : Reg) :
    exec (.shlr16 n) s = execShlr16 n s := rfl
@[simp] theorem exec_movuaL4 (m : Reg) :
    exec (.movuaL4 m) s = execMovuaL4 m s := rfl
@[simp] theorem exec_movuaLInc4 (m : Reg) :
    exec (.movuaLInc4 m) s = execMovuaLInc4 m s := rfl
@[simp] theorem exec_ldsMach (m : Reg) :
    exec (.ldsMach m) s = execLdsMach m s := rfl
@[simp] theorem exec_ldsMacl (m : Reg) :
    exec (.ldsMacl m) s = execLdsMacl m s := rfl
@[simp] theorem exec_ldsPr (m : Reg) :
    exec (.ldsPr m) s = execLdsPr m s := rfl
@[simp] theorem exec_ldcSgr (m : Reg) :
    exec (.ldcSgr m) s = execLdcSgr m s := rfl
@[simp] theorem exec_ldcUnk4A (m : Reg) :
    exec (.ldcUnk4A m) s = execLdcUnk4A m s := rfl
@[simp] theorem exec_ldsFpul (m : Reg) :
    exec (.ldsFpul m) s = execLdsFpul m s := rfl
@[simp] theorem exec_ldsFpscr (m : Reg) :
    exec (.ldsFpscr m) s = execLdsFpscr m s := rfl
@[simp] theorem exec_jsr (m : Reg) :
    exec (.jsr m) s = execJsr m s := rfl
@[simp] theorem exec_tasB (m : Reg) :
    exec (.tasB m) s = execTasB m s := rfl
@[simp] theorem exec_jmp (m : Reg) :
    exec (.jmp m) s = execJmp m s := rfl
@[simp] theorem exec_jsrN4B (m : Reg) :
    exec (.jsrN4B m) s = execJsrN4B m s := rfl
@[simp] theorem exec_movBStoreInc (m : Reg) :
    exec (.movBStoreInc m) s = execMovBStoreInc m s := rfl
@[simp] theorem exec_movWStoreInc (m : Reg) :
    exec (.movWStoreInc m) s = execMovWStoreInc m s := rfl
@[simp] theorem exec_movLStoreInc (m : Reg) :
    exec (.movLStoreInc m) s = execMovLStoreInc m s := rfl
@[simp] theorem exec_movBLoadDec (m : Reg) :
    exec (.movBLoadDec m) s = execMovBLoadDec m s := rfl
@[simp] theorem exec_movWLoadDec (m : Reg) :
    exec (.movWLoadDec m) s = execMovWLoadDec m s := rfl
@[simp] theorem exec_movLLoadDec (m : Reg) :
    exec (.movLLoadDec m) s = execMovLLoadDec m s := rfl
@[simp] theorem exec_shad (n : Reg) (m : Reg) :
    exec (.shad n m) s = execShad n m s := rfl
@[simp] theorem exec_shld (n : Reg) (m : Reg) :
    exec (.shld n m) s = execShld n m s := rfl
@[simp] theorem exec_ldcSr (m : Reg) :
    exec (.ldcSr m) s = execLdcSr m s := rfl
@[simp] theorem exec_ldcGbr (m : Reg) :
    exec (.ldcGbr m) s = execLdcGbr m s := rfl
@[simp] theorem exec_ldcVbr (m : Reg) :
    exec (.ldcVbr m) s = execLdcVbr m s := rfl
@[simp] theorem exec_ldcSsr (m : Reg) :
    exec (.ldcSsr m) s = execLdcSsr m s := rfl
@[simp] theorem exec_ldcSpc (m : Reg) :
    exec (.ldcSpc m) s = execLdcSpc m s := rfl
@[simp] theorem exec_ldcUnk5E (m : Reg) :
    exec (.ldcUnk5E m) s = execLdcUnk5E m s := rfl
@[simp] theorem exec_ldcBank (m : Reg) (nb : BankReg) :
    exec (.ldcBank m nb) s = execLdcBank m nb s := rfl
@[simp] theorem exec_macW (n : Reg) (m : Reg) :
    exec (.macW n m) s = execMacW n m s := rfl
@[simp] theorem exec_movLLoadDisp (n : Reg) (m : Reg) (disp : Nibble) :
    exec (.movLLoadDisp n m disp) s = execMovLLoadDisp n m disp s := rfl
@[simp] theorem exec_movBLoad (n : Reg) (m : Reg) :
    exec (.movBLoad n m) s = execMovBLoad n m s := rfl
@[simp] theorem exec_movWLoad (n : Reg) (m : Reg) :
    exec (.movWLoad n m) s = execMovWLoad n m s := rfl
@[simp] theorem exec_movLLoad (n : Reg) (m : Reg) :
    exec (.movLLoad n m) s = execMovLLoad n m s := rfl
@[simp] theorem exec_movR (n : Reg) (m : Reg) :
    exec (.movR n m) s = execMovR n m s := rfl
@[simp] theorem exec_movBLoadInc (n : Reg) (m : Reg) :
    exec (.movBLoadInc n m) s = execMovBLoadInc n m s := rfl
@[simp] theorem exec_movWLoadInc (n : Reg) (m : Reg) :
    exec (.movWLoadInc n m) s = execMovWLoadInc n m s := rfl
@[simp] theorem exec_movLLoadInc (n : Reg) (m : Reg) :
    exec (.movLLoadInc n m) s = execMovLLoadInc n m s := rfl
@[simp] theorem exec_notR (n : Reg) (m : Reg) :
    exec (.notR n m) s = execNotR n m s := rfl
@[simp] theorem exec_swapB (n : Reg) (m : Reg) :
    exec (.swapB n m) s = execSwapB n m s := rfl
@[simp] theorem exec_swapW (n : Reg) (m : Reg) :
    exec (.swapW n m) s = execSwapW n m s := rfl
@[simp] theorem exec_negc (n : Reg) (m : Reg) :
    exec (.negc n m) s = execNegc n m s := rfl
@[simp] theorem exec_neg (n : Reg) (m : Reg) :
    exec (.neg n m) s = execNeg n m s := rfl
@[simp] theorem exec_extuB (n : Reg) (m : Reg) :
    exec (.extuB n m) s = execExtuB n m s := rfl
@[simp] theorem exec_extuW (n : Reg) (m : Reg) :
    exec (.extuW n m) s = execExtuW n m s := rfl
@[simp] theorem exec_extsB (n : Reg) (m : Reg) :
    exec (.extsB n m) s = execExtsB n m s := rfl
@[simp] theorem exec_extsW (n : Reg) (m : Reg) :
    exec (.extsW n m) s = execExtsW n m s := rfl
@[simp] theorem exec_addI (n : Reg) (imm : BitVec 8) :
    exec (.addI n imm) s = execAddI n imm s := rfl
@[simp] theorem exec_movBStoreDisp (n : Reg) (disp : Nibble) :
    exec (.movBStoreDisp n disp) s = execMovBStoreDisp n disp s := rfl
@[simp] theorem exec_movWStoreDisp (n : Reg) (disp : Nibble) :
    exec (.movWStoreDisp n disp) s = execMovWStoreDisp n disp s := rfl
@[simp] theorem exec_jsrN83 (x : BitVec 8) :
    exec (.jsrN83 x) s = execJsrN83 x s := rfl
@[simp] theorem exec_movBLoadDisp (m : Reg) (disp : Nibble) :
    exec (.movBLoadDisp m disp) s = execMovBLoadDisp m disp s := rfl
@[simp] theorem exec_movWLoadDisp (m : Reg) (disp : Nibble) :
    exec (.movWLoadDisp m disp) s = execMovWLoadDisp m disp s := rfl
@[simp] theorem exec_bsetBclr (x : BitVec 8) :
    exec (.bsetBclr x) s = execBsetBclr x s := rfl
@[simp] theorem exec_bstBld (x : BitVec 8) :
    exec (.bstBld x) s = execBstBld x s := rfl
@[simp] theorem exec_cmpeqI (imm : BitVec 8) :
    exec (.cmpeqI imm) s = execCmpeqI imm s := rfl
@[simp] theorem exec_bt (disp : BitVec 8) :
    exec (.bt disp) s = execBt disp s := rfl
@[simp] theorem exec_movi24 (imm : BitVec 24) :
    exec (.movi24 imm) s = execMovi24 imm s := rfl
@[simp] theorem exec_bf (disp : BitVec 8) :
    exec (.bf disp) s = execBf disp s := rfl
@[simp] theorem exec_ldsh8 (imm : BitVec 8) :
    exec (.ldsh8 imm) s = execLdsh8 imm s := rfl
@[simp] theorem exec_bts (disp : BitVec 8) :
    exec (.bts disp) s = execBts disp s := rfl
@[simp] theorem exec_xpfx0 (imm : BitVec 8) :
    exec (.xpfx0 imm) s = execXpfx0 imm s := rfl
@[simp] theorem exec_bfs (disp : BitVec 8) :
    exec (.bfs disp) s = execBfs disp s := rfl
@[simp] theorem exec_movWLoadPc (n : Reg) (disp : BitVec 8) :
    exec (.movWLoadPc n disp) s = execMovWLoadPc n disp s := rfl
@[simp] theorem exec_bra (disp : BitVec 12) :
    exec (.bra disp) s = execBra disp s := rfl
@[simp] theorem exec_bsr (disp : BitVec 12) :
    exec (.bsr disp) s = execBsr disp s := rfl
@[simp] theorem exec_movBStoreGbr (disp : BitVec 8) :
    exec (.movBStoreGbr disp) s = execMovBStoreGbr disp s := rfl
@[simp] theorem exec_movWStoreGbr (disp : BitVec 8) :
    exec (.movWStoreGbr disp) s = execMovWStoreGbr disp s := rfl
@[simp] theorem exec_movLStoreGbr (disp : BitVec 8) :
    exec (.movLStoreGbr disp) s = execMovLStoreGbr disp s := rfl
@[simp] theorem exec_trapa (imm : BitVec 8) :
    exec (.trapa imm) s = execTrapa imm s := rfl
@[simp] theorem exec_movBLoadGbr (disp : BitVec 8) :
    exec (.movBLoadGbr disp) s = execMovBLoadGbr disp s := rfl
@[simp] theorem exec_movWLoadGbr (disp : BitVec 8) :
    exec (.movWLoadGbr disp) s = execMovWLoadGbr disp s := rfl
@[simp] theorem exec_movLLoadGbr (disp : BitVec 8) :
    exec (.movLLoadGbr disp) s = execMovLLoadGbr disp s := rfl
@[simp] theorem exec_mova (disp : BitVec 8) :
    exec (.mova disp) s = execMova disp s := rfl
@[simp] theorem exec_tstI (imm : BitVec 8) :
    exec (.tstI imm) s = execTstI imm s := rfl
@[simp] theorem exec_andI (imm : BitVec 8) :
    exec (.andI imm) s = execAndI imm s := rfl
@[simp] theorem exec_xorI (imm : BitVec 8) :
    exec (.xorI imm) s = execXorI imm s := rfl
@[simp] theorem exec_orI (imm : BitVec 8) :
    exec (.orI imm) s = execOrI imm s := rfl
@[simp] theorem exec_tstBGbr (imm : BitVec 8) :
    exec (.tstBGbr imm) s = execTstBGbr imm s := rfl
@[simp] theorem exec_andBGbr (imm : BitVec 8) :
    exec (.andBGbr imm) s = execAndBGbr imm s := rfl
@[simp] theorem exec_xorBGbr (imm : BitVec 8) :
    exec (.xorBGbr imm) s = execXorBGbr imm s := rfl
@[simp] theorem exec_orBGbr (imm : BitVec 8) :
    exec (.orBGbr imm) s = execOrBGbr imm s := rfl
@[simp] theorem exec_movLLoadPc (n : Reg) (disp : BitVec 8) :
    exec (.movLLoadPc n disp) s = execMovLLoadPc n disp s := rfl
@[simp] theorem exec_movI (n : Reg) (imm : BitVec 8) :
    exec (.movI n imm) s = execMovI n imm s := rfl
@[simp] theorem exec_fadd (n : FReg) (m : FReg) :
    exec (.fadd n m) s = execFadd n m s := rfl
@[simp] theorem exec_fsub (n : FReg) (m : FReg) :
    exec (.fsub n m) s = execFsub n m s := rfl
@[simp] theorem exec_fmul (n : FReg) (m : FReg) :
    exec (.fmul n m) s = execFmul n m s := rfl
@[simp] theorem exec_fdiv (n : FReg) (m : FReg) :
    exec (.fdiv n m) s = execFdiv n m s := rfl
@[simp] theorem exec_fcmpeq (n : FReg) (m : FReg) :
    exec (.fcmpeq n m) s = execFcmpeq n m s := rfl
@[simp] theorem exec_fcmpgt (n : FReg) (m : FReg) :
    exec (.fcmpgt n m) s = execFcmpgt n m s := rfl
@[simp] theorem exec_fmovLoadIdx (n : FReg) (m : Reg) :
    exec (.fmovLoadIdx n m) s = execFmovLoadIdx n m s := rfl
@[simp] theorem exec_fmovStoreIdx (n : Reg) (m : FReg) :
    exec (.fmovStoreIdx n m) s = execFmovStoreIdx n m s := rfl
@[simp] theorem exec_fmovLoad (n : FReg) (m : Reg) :
    exec (.fmovLoad n m) s = execFmovLoad n m s := rfl
@[simp] theorem exec_fmovLoadInc (n : FReg) (m : Reg) :
    exec (.fmovLoadInc n m) s = execFmovLoadInc n m s := rfl
@[simp] theorem exec_fmovStore (n : Reg) (m : FReg) :
    exec (.fmovStore n m) s = execFmovStore n m s := rfl
@[simp] theorem exec_fmovPush (n : Reg) (m : FReg) :
    exec (.fmovPush n m) s = execFmovPush n m s := rfl
@[simp] theorem exec_fmovR (n : FReg) (m : FReg) :
    exec (.fmovR n m) s = execFmovR n m s := rfl
@[simp] theorem exec_fsts (n : FReg) :
    exec (.fsts n) s = execFsts n s := rfl
@[simp] theorem exec_flds (m : FReg) :
    exec (.flds m) s = execFlds m s := rfl
@[simp] theorem exec_float (n : FReg) :
    exec (.float n) s = execFloat n s := rfl
@[simp] theorem exec_ftrc (m : FReg) :
    exec (.ftrc m) s = execFtrc m s := rfl
@[simp] theorem exec_fneg (n : FReg) :
    exec (.fneg n) s = execFneg n s := rfl
@[simp] theorem exec_fabs (n : FReg) :
    exec (.fabs n) s = execFabs n s := rfl
@[simp] theorem exec_fsqrt (n : FReg) :
    exec (.fsqrt n) s = execFsqrt n s := rfl
@[simp] theorem exec_fsrra (x : Nibble) :
    exec (.fsrra x) s = execFsrra x s := rfl
@[simp] theorem exec_fldi0 (n : FReg) :
    exec (.fldi0 n) s = execFldi0 n s := rfl
@[simp] theorem exec_fldi1 (n : FReg) :
    exec (.fldi1 n) s = execFldi1 n s := rfl
@[simp] theorem exec_fcnvsd (n : FReg) :
    exec (.fcnvsd n) s = execFcnvsd n s := rfl
@[simp] theorem exec_fcnvds (m : FReg) :
    exec (.fcnvds m) s = execFcnvds m s := rfl
@[simp] theorem exec_fipr (x : Nibble) :
    exec (.fipr x) s = execFipr x s := rfl
@[simp] theorem exec_fmac (n : FReg) (m : FReg) :
    exec (.fmac n m) s = execFmac n m s := rfl
@[simp] theorem exec_resFF (x : Nibble) (y : Nibble) :
    exec (.resFF x y) s = execResFF x y s := rfl
@[simp] theorem exec_clrt :
    exec (.clrt) s = execClrt s := rfl
@[simp] theorem exec_sett :
    exec (.sett) s = execSett s := rfl
@[simp] theorem exec_clrmac :
    exec (.clrmac) s = execClrmac s := rfl
@[simp] theorem exec_ldtlb :
    exec (.ldtlb) s = execLdtlb s := rfl
@[simp] theorem exec_clrs :
    exec (.clrs) s = execClrs s := rfl
@[simp] theorem exec_sets :
    exec (.sets) s = execSets s := rfl
@[simp] theorem exec_nott :
    exec (.nott) s = execNott s := rfl
@[simp] theorem exec_nop :
    exec (.nop) s = execNop s := rfl
@[simp] theorem exec_div0u :
    exec (.div0u) s = execDiv0u s := rfl
@[simp] theorem exec_rts :
    exec (.rts) s = execRts s := rfl
@[simp] theorem exec_sleep :
    exec (.sleep) s = execSleep s := rfl
@[simp] theorem exec_rte :
    exec (.rte) s = execRte s := rfl
@[simp] theorem exec_brk :
    exec (.brk) s = execBrk s := rfl
@[simp] theorem exec_resbank :
    exec (.resbank) s = execResbank s := rfl
@[simp] theorem exec_rtsN :
    exec (.rtsN) s = execRtsN s := rfl
@[simp] theorem exec_synco :
    exec (.synco) s = execSynco s := rfl
@[simp] theorem exec_fscaF0 :
    exec (.fscaF0) s = execFscaF0 s := rfl
@[simp] theorem exec_ftrv2F1 :
    exec (.ftrv2F1) s = execFtrv2F1 s := rfl
@[simp] theorem exec_fscaF2 :
    exec (.fscaF2) s = execFscaF2 s := rfl
@[simp] theorem exec_fschg :
    exec (.fschg) s = execFschg s := rfl
@[simp] theorem exec_fscaF4 :
    exec (.fscaF4) s = execFscaF4 s := rfl
@[simp] theorem exec_ftrv2F5 :
    exec (.ftrv2F5) s = execFtrv2F5 s := rfl
@[simp] theorem exec_fscaF6 :
    exec (.fscaF6) s = execFscaF6 s := rfl
@[simp] theorem exec_fpchg :
    exec (.fpchg) s = execFpchg s := rfl
@[simp] theorem exec_fscaF8 :
    exec (.fscaF8) s = execFscaF8 s := rfl
@[simp] theorem exec_ftrv2F9 :
    exec (.ftrv2F9) s = execFtrv2F9 s := rfl
@[simp] theorem exec_fscaFA :
    exec (.fscaFA) s = execFscaFA s := rfl
@[simp] theorem exec_frchg :
    exec (.frchg) s = execFrchg s := rfl
@[simp] theorem exec_fscaFC :
    exec (.fscaFC) s = execFscaFC s := rfl
@[simp] theorem exec_ftrv2FD :
    exec (.ftrv2FD) s = execFtrv2FD s := rfl
@[simp] theorem exec_fscaFE :
    exec (.fscaFE) s = execFscaFE s := rfl
@[simp] theorem exec_movi20 (n : Reg) (imm : BitVec 20) :
    exec (.movi20 n imm) s = execMovi20 n imm s := rfl
@[simp] theorem exec_movi20s (n : Reg) (imm : BitVec 20) :
    exec (.movi20s n imm) s = execMovi20s n imm s := rfl
@[simp] theorem exec_movBStoreD12 (n : Reg) (m : Reg) (disp : BitVec 12) :
    exec (.movBStoreD12 n m disp) s = execMovBStoreD12 n m disp s := rfl
@[simp] theorem exec_movWStoreD12 (n : Reg) (m : Reg) (disp : BitVec 12) :
    exec (.movWStoreD12 n m disp) s = execMovWStoreD12 n m disp s := rfl
@[simp] theorem exec_movLStoreD12 (n : Reg) (m : Reg) (disp : BitVec 12) :
    exec (.movLStoreD12 n m disp) s = execMovLStoreD12 n m disp s := rfl
@[simp] theorem exec_fmovStoreD12 (n : Reg) (m : FReg) (disp : BitVec 12) :
    exec (.fmovStoreD12 n m disp) s = execFmovStoreD12 n m disp s := rfl
@[simp] theorem exec_movBLoadD12 (n : Reg) (m : Reg) (disp : BitVec 12) :
    exec (.movBLoadD12 n m disp) s = execMovBLoadD12 n m disp s := rfl
@[simp] theorem exec_movWLoadD12 (n : Reg) (m : Reg) (disp : BitVec 12) :
    exec (.movWLoadD12 n m disp) s = execMovWLoadD12 n m disp s := rfl
@[simp] theorem exec_movLLoadD12 (n : Reg) (m : Reg) (disp : BitVec 12) :
    exec (.movLLoadD12 n m disp) s = execMovLLoadD12 n m disp s := rfl
@[simp] theorem exec_fmovLoadD12 (n : FReg) (m : Reg) (disp : BitVec 12) :
    exec (.fmovLoadD12 n m disp) s = execFmovLoadD12 n m disp s := rfl
@[simp] theorem exec_movuBLoadD12 (n : Reg) (m : Reg) (disp : BitVec 12) :
    exec (.movuBLoadD12 n m disp) s = execMovuBLoadD12 n m disp s := rfl
@[simp] theorem exec_movuWLoadD12 (n : Reg) (m : Reg) (disp : BitVec 12) :
    exec (.movuWLoadD12 n m disp) s = execMovuWLoadD12 n m disp s := rfl
@[simp] theorem exec_bclrB (n : Reg) (imm : Nibble) (disp : BitVec 12) :
    exec (.bclrB n imm disp) s = execBclrB n imm disp s := rfl
@[simp] theorem exec_bsetB (n : Reg) (imm : Nibble) (disp : BitVec 12) :
    exec (.bsetB n imm disp) s = execBsetB n imm disp s := rfl
@[simp] theorem exec_bstB (n : Reg) (imm : Nibble) (disp : BitVec 12) :
    exec (.bstB n imm disp) s = execBstB n imm disp s := rfl
@[simp] theorem exec_bldB (n : Reg) (imm : Nibble) (disp : BitVec 12) :
    exec (.bldB n imm disp) s = execBldB n imm disp s := rfl
@[simp] theorem exec_bandB (n : Reg) (imm : Nibble) (disp : BitVec 12) :
    exec (.bandB n imm disp) s = execBandB n imm disp s := rfl
@[simp] theorem exec_borB (n : Reg) (imm : Nibble) (disp : BitVec 12) :
    exec (.borB n imm disp) s = execBorB n imm disp s := rfl
@[simp] theorem exec_bxorB (n : Reg) (imm : Nibble) (disp : BitVec 12) :
    exec (.bxorB n imm disp) s = execBxorB n imm disp s := rfl
@[simp] theorem exec_bldnotB (n : Reg) (imm : Nibble) (disp : BitVec 12) :
    exec (.bldnotB n imm disp) s = execBldnotB n imm disp s := rfl
@[simp] theorem exec_bandnotB (n : Reg) (imm : Nibble) (disp : BitVec 12) :
    exec (.bandnotB n imm disp) s = execBandnotB n imm disp s := rfl
@[simp] theorem exec_bornotB (n : Reg) (imm : Nibble) (disp : BitVec 12) :
    exec (.bornotB n imm disp) s = execBornotB n imm disp s := rfl
@[simp] theorem exec_cmpbeq (n : Reg) (m : Reg) (disp : BitVec 8) :
    exec (.cmpbeq n m disp) s = execCmpbeq n m disp s := rfl
@[simp] theorem exec_cmpbne (n : Reg) (m : Reg) (disp : BitVec 8) :
    exec (.cmpbne n m disp) s = execCmpbne n m disp s := rfl
@[simp] theorem exec_cmpbge (n : Reg) (m : Reg) (disp : BitVec 8) :
    exec (.cmpbge n m disp) s = execCmpbge n m disp s := rfl
@[simp] theorem exec_cmpblt (n : Reg) (m : Reg) (disp : BitVec 8) :
    exec (.cmpblt n m disp) s = execCmpblt n m disp s := rfl
@[simp] theorem exec_cmpbgt (n : Reg) (m : Reg) (disp : BitVec 8) :
    exec (.cmpbgt n m disp) s = execCmpbgt n m disp s := rfl
@[simp] theorem exec_cmpble (n : Reg) (m : Reg) (disp : BitVec 8) :
    exec (.cmpble n m disp) s = execCmpble n m disp s := rfl
@[simp] theorem exec_shadImm (n : Reg) (m : Reg) (imm : BitVec 8) :
    exec (.shadImm n m imm) s = execShadImm n m imm s := rfl
@[simp] theorem exec_shldImm (n : Reg) (m : Reg) (imm : BitVec 8) :
    exec (.shldImm n m imm) s = execShldImm n m imm s := rfl

end Sys2Proof.Machine
end

