-- ==== Sys2Proof/Laws/State.lean ====
section
/-! SUPPORT. One lemma per field per update of `State`, true by unfolding, so that no proof unfolds a record
update. -/

namespace Sys2Proof.Machine

variable (s : State)

/-! ### setT -/

@[simp] theorem State.setT_bankA (b : Bool) : (s.setT b).bankA = s.bankA := rfl
@[simp] theorem State.setT_bankB (b : Bool) : (s.setT b).bankB = s.bankB := rfl
@[simp] theorem State.setT_rh (b : Bool) : (s.setT b).rh = s.rh := rfl
@[simp] theorem State.setT_pc (b : Bool) : (s.setT b).pc = s.pc := rfl
@[simp] theorem State.setT_sr (b : Bool) : (s.setT b).sr = setBit s.sr 0 b := rfl
@[simp] theorem State.setT_gbr (b : Bool) : (s.setT b).gbr = s.gbr := rfl
@[simp] theorem State.setT_vbr (b : Bool) : (s.setT b).vbr = s.vbr := rfl
@[simp] theorem State.setT_ssr (b : Bool) : (s.setT b).ssr = s.ssr := rfl
@[simp] theorem State.setT_spc (b : Bool) : (s.setT b).spc = s.spc := rfl
@[simp] theorem State.setT_sgr (b : Bool) : (s.setT b).sgr = s.sgr := rfl
@[simp] theorem State.setT_dbr (b : Bool) : (s.setT b).dbr = s.dbr := rfl
@[simp] theorem State.setT_mach (b : Bool) : (s.setT b).mach = s.mach := rfl
@[simp] theorem State.setT_macl (b : Bool) : (s.setT b).macl = s.macl := rfl
@[simp] theorem State.setT_pr (b : Bool) : (s.setT b).pr = s.pr := rfl
@[simp] theorem State.setT_fpscr (b : Bool) : (s.setT b).fpscr = s.fpscr := rfl
@[simp] theorem State.setT_fpul (b : Bool) : (s.setT b).fpul = s.fpul := rfl
@[simp] theorem State.setT_fb0 (b : Bool) : (s.setT b).fb0 = s.fb0 := rfl
@[simp] theorem State.setT_fb1 (b : Bool) : (s.setT b).fb1 = s.fb1 := rfl
@[simp] theorem State.setT_mem (b : Bool) : (s.setT b).mem = s.mem := rfl
@[simp] theorem State.setT_slot (b : Bool) : (s.setT b).slot = s.slot := rfl
@[simp] theorem State.setT_irqs (b : Bool) : (s.setT b).irqs = s.irqs := rfl
@[simp] theorem State.setT_asleep (b : Bool) : (s.setT b).asleep = s.asleep := rfl
@[simp] theorem State.setT_stored (b : Bool) : (s.setT b).stored = s.stored := rfl
@[simp] theorem State.setT_special (b : Bool) : (s.setT b).special = s.special := rfl
@[simp] theorem State.setT_freeCtr (b : Bool) : (s.setT b).freeCtr = s.freeCtr := rfl
@[simp] theorem State.setT_cfg (b : Bool) : (s.setT b).cfg = s.cfg := rfl

/-! ### setS -/

@[simp] theorem State.setS_bankA (b : Bool) : (s.setS b).bankA = s.bankA := rfl
@[simp] theorem State.setS_bankB (b : Bool) : (s.setS b).bankB = s.bankB := rfl
@[simp] theorem State.setS_rh (b : Bool) : (s.setS b).rh = s.rh := rfl
@[simp] theorem State.setS_pc (b : Bool) : (s.setS b).pc = s.pc := rfl
@[simp] theorem State.setS_sr (b : Bool) : (s.setS b).sr = setBit s.sr 1 b := rfl
@[simp] theorem State.setS_gbr (b : Bool) : (s.setS b).gbr = s.gbr := rfl
@[simp] theorem State.setS_vbr (b : Bool) : (s.setS b).vbr = s.vbr := rfl
@[simp] theorem State.setS_ssr (b : Bool) : (s.setS b).ssr = s.ssr := rfl
@[simp] theorem State.setS_spc (b : Bool) : (s.setS b).spc = s.spc := rfl
@[simp] theorem State.setS_sgr (b : Bool) : (s.setS b).sgr = s.sgr := rfl
@[simp] theorem State.setS_dbr (b : Bool) : (s.setS b).dbr = s.dbr := rfl
@[simp] theorem State.setS_mach (b : Bool) : (s.setS b).mach = s.mach := rfl
@[simp] theorem State.setS_macl (b : Bool) : (s.setS b).macl = s.macl := rfl
@[simp] theorem State.setS_pr (b : Bool) : (s.setS b).pr = s.pr := rfl
@[simp] theorem State.setS_fpscr (b : Bool) : (s.setS b).fpscr = s.fpscr := rfl
@[simp] theorem State.setS_fpul (b : Bool) : (s.setS b).fpul = s.fpul := rfl
@[simp] theorem State.setS_fb0 (b : Bool) : (s.setS b).fb0 = s.fb0 := rfl
@[simp] theorem State.setS_fb1 (b : Bool) : (s.setS b).fb1 = s.fb1 := rfl
@[simp] theorem State.setS_mem (b : Bool) : (s.setS b).mem = s.mem := rfl
@[simp] theorem State.setS_slot (b : Bool) : (s.setS b).slot = s.slot := rfl
@[simp] theorem State.setS_irqs (b : Bool) : (s.setS b).irqs = s.irqs := rfl
@[simp] theorem State.setS_asleep (b : Bool) : (s.setS b).asleep = s.asleep := rfl
@[simp] theorem State.setS_stored (b : Bool) : (s.setS b).stored = s.stored := rfl
@[simp] theorem State.setS_special (b : Bool) : (s.setS b).special = s.special := rfl
@[simp] theorem State.setS_freeCtr (b : Bool) : (s.setS b).freeCtr = s.freeCtr := rfl
@[simp] theorem State.setS_cfg (b : Bool) : (s.setS b).cfg = s.cfg := rfl

/-! ### setQ -/

@[simp] theorem State.setQ_bankA (b : Bool) : (s.setQ b).bankA = s.bankA := rfl
@[simp] theorem State.setQ_bankB (b : Bool) : (s.setQ b).bankB = s.bankB := rfl
@[simp] theorem State.setQ_rh (b : Bool) : (s.setQ b).rh = s.rh := rfl
@[simp] theorem State.setQ_pc (b : Bool) : (s.setQ b).pc = s.pc := rfl
@[simp] theorem State.setQ_sr (b : Bool) : (s.setQ b).sr = setBit s.sr 8 b := rfl
@[simp] theorem State.setQ_gbr (b : Bool) : (s.setQ b).gbr = s.gbr := rfl
@[simp] theorem State.setQ_vbr (b : Bool) : (s.setQ b).vbr = s.vbr := rfl
@[simp] theorem State.setQ_ssr (b : Bool) : (s.setQ b).ssr = s.ssr := rfl
@[simp] theorem State.setQ_spc (b : Bool) : (s.setQ b).spc = s.spc := rfl
@[simp] theorem State.setQ_sgr (b : Bool) : (s.setQ b).sgr = s.sgr := rfl
@[simp] theorem State.setQ_dbr (b : Bool) : (s.setQ b).dbr = s.dbr := rfl
@[simp] theorem State.setQ_mach (b : Bool) : (s.setQ b).mach = s.mach := rfl
@[simp] theorem State.setQ_macl (b : Bool) : (s.setQ b).macl = s.macl := rfl
@[simp] theorem State.setQ_pr (b : Bool) : (s.setQ b).pr = s.pr := rfl
@[simp] theorem State.setQ_fpscr (b : Bool) : (s.setQ b).fpscr = s.fpscr := rfl
@[simp] theorem State.setQ_fpul (b : Bool) : (s.setQ b).fpul = s.fpul := rfl
@[simp] theorem State.setQ_fb0 (b : Bool) : (s.setQ b).fb0 = s.fb0 := rfl
@[simp] theorem State.setQ_fb1 (b : Bool) : (s.setQ b).fb1 = s.fb1 := rfl
@[simp] theorem State.setQ_mem (b : Bool) : (s.setQ b).mem = s.mem := rfl
@[simp] theorem State.setQ_slot (b : Bool) : (s.setQ b).slot = s.slot := rfl
@[simp] theorem State.setQ_irqs (b : Bool) : (s.setQ b).irqs = s.irqs := rfl
@[simp] theorem State.setQ_asleep (b : Bool) : (s.setQ b).asleep = s.asleep := rfl
@[simp] theorem State.setQ_stored (b : Bool) : (s.setQ b).stored = s.stored := rfl
@[simp] theorem State.setQ_special (b : Bool) : (s.setQ b).special = s.special := rfl
@[simp] theorem State.setQ_freeCtr (b : Bool) : (s.setQ b).freeCtr = s.freeCtr := rfl
@[simp] theorem State.setQ_cfg (b : Bool) : (s.setQ b).cfg = s.cfg := rfl

/-! ### setM -/

@[simp] theorem State.setM_bankA (b : Bool) : (s.setM b).bankA = s.bankA := rfl
@[simp] theorem State.setM_bankB (b : Bool) : (s.setM b).bankB = s.bankB := rfl
@[simp] theorem State.setM_rh (b : Bool) : (s.setM b).rh = s.rh := rfl
@[simp] theorem State.setM_pc (b : Bool) : (s.setM b).pc = s.pc := rfl
@[simp] theorem State.setM_sr (b : Bool) : (s.setM b).sr = setBit s.sr 9 b := rfl
@[simp] theorem State.setM_gbr (b : Bool) : (s.setM b).gbr = s.gbr := rfl
@[simp] theorem State.setM_vbr (b : Bool) : (s.setM b).vbr = s.vbr := rfl
@[simp] theorem State.setM_ssr (b : Bool) : (s.setM b).ssr = s.ssr := rfl
@[simp] theorem State.setM_spc (b : Bool) : (s.setM b).spc = s.spc := rfl
@[simp] theorem State.setM_sgr (b : Bool) : (s.setM b).sgr = s.sgr := rfl
@[simp] theorem State.setM_dbr (b : Bool) : (s.setM b).dbr = s.dbr := rfl
@[simp] theorem State.setM_mach (b : Bool) : (s.setM b).mach = s.mach := rfl
@[simp] theorem State.setM_macl (b : Bool) : (s.setM b).macl = s.macl := rfl
@[simp] theorem State.setM_pr (b : Bool) : (s.setM b).pr = s.pr := rfl
@[simp] theorem State.setM_fpscr (b : Bool) : (s.setM b).fpscr = s.fpscr := rfl
@[simp] theorem State.setM_fpul (b : Bool) : (s.setM b).fpul = s.fpul := rfl
@[simp] theorem State.setM_fb0 (b : Bool) : (s.setM b).fb0 = s.fb0 := rfl
@[simp] theorem State.setM_fb1 (b : Bool) : (s.setM b).fb1 = s.fb1 := rfl
@[simp] theorem State.setM_mem (b : Bool) : (s.setM b).mem = s.mem := rfl
@[simp] theorem State.setM_slot (b : Bool) : (s.setM b).slot = s.slot := rfl
@[simp] theorem State.setM_irqs (b : Bool) : (s.setM b).irqs = s.irqs := rfl
@[simp] theorem State.setM_asleep (b : Bool) : (s.setM b).asleep = s.asleep := rfl
@[simp] theorem State.setM_stored (b : Bool) : (s.setM b).stored = s.stored := rfl
@[simp] theorem State.setM_special (b : Bool) : (s.setM b).special = s.special := rfl
@[simp] theorem State.setM_freeCtr (b : Bool) : (s.setM b).freeCtr = s.freeCtr := rfl
@[simp] theorem State.setM_cfg (b : Bool) : (s.setM b).cfg = s.cfg := rfl

/-! ### setSr -/

@[simp] theorem State.setSr_bankA (v : Word) : (s.setSr v).bankA = s.bankA := rfl
@[simp] theorem State.setSr_bankB (v : Word) : (s.setSr v).bankB = s.bankB := rfl
@[simp] theorem State.setSr_rh (v : Word) : (s.setSr v).rh = s.rh := rfl
@[simp] theorem State.setSr_pc (v : Word) : (s.setSr v).pc = s.pc := rfl
@[simp] theorem State.setSr_sr (v : Word) : (s.setSr v).sr = v &&& Config.srMask := rfl
@[simp] theorem State.setSr_gbr (v : Word) : (s.setSr v).gbr = s.gbr := rfl
@[simp] theorem State.setSr_vbr (v : Word) : (s.setSr v).vbr = s.vbr := rfl
@[simp] theorem State.setSr_ssr (v : Word) : (s.setSr v).ssr = s.ssr := rfl
@[simp] theorem State.setSr_spc (v : Word) : (s.setSr v).spc = s.spc := rfl
@[simp] theorem State.setSr_sgr (v : Word) : (s.setSr v).sgr = s.sgr := rfl
@[simp] theorem State.setSr_dbr (v : Word) : (s.setSr v).dbr = s.dbr := rfl
@[simp] theorem State.setSr_mach (v : Word) : (s.setSr v).mach = s.mach := rfl
@[simp] theorem State.setSr_macl (v : Word) : (s.setSr v).macl = s.macl := rfl
@[simp] theorem State.setSr_pr (v : Word) : (s.setSr v).pr = s.pr := rfl
@[simp] theorem State.setSr_fpscr (v : Word) : (s.setSr v).fpscr = s.fpscr := rfl
@[simp] theorem State.setSr_fpul (v : Word) : (s.setSr v).fpul = s.fpul := rfl
@[simp] theorem State.setSr_fb0 (v : Word) : (s.setSr v).fb0 = s.fb0 := rfl
@[simp] theorem State.setSr_fb1 (v : Word) : (s.setSr v).fb1 = s.fb1 := rfl
@[simp] theorem State.setSr_mem (v : Word) : (s.setSr v).mem = s.mem := rfl
@[simp] theorem State.setSr_slot (v : Word) : (s.setSr v).slot = s.slot := rfl
@[simp] theorem State.setSr_irqs (v : Word) : (s.setSr v).irqs = s.irqs := rfl
@[simp] theorem State.setSr_asleep (v : Word) : (s.setSr v).asleep = s.asleep := rfl
@[simp] theorem State.setSr_stored (v : Word) : (s.setSr v).stored = s.stored := rfl
@[simp] theorem State.setSr_special (v : Word) : (s.setSr v).special = s.special := rfl
@[simp] theorem State.setSr_freeCtr (v : Word) : (s.setSr v).freeCtr = s.freeCtr := rfl
@[simp] theorem State.setSr_cfg (v : Word) : (s.setSr v).cfg = s.cfg := rfl

/-! ### setFpscr -/

@[simp] theorem State.setFpscr_bankA (v : Word) : (s.setFpscr v).bankA = s.bankA := rfl
@[simp] theorem State.setFpscr_bankB (v : Word) : (s.setFpscr v).bankB = s.bankB := rfl
@[simp] theorem State.setFpscr_rh (v : Word) : (s.setFpscr v).rh = s.rh := rfl
@[simp] theorem State.setFpscr_pc (v : Word) : (s.setFpscr v).pc = s.pc := rfl
@[simp] theorem State.setFpscr_sr (v : Word) : (s.setFpscr v).sr = s.sr := rfl
@[simp] theorem State.setFpscr_gbr (v : Word) : (s.setFpscr v).gbr = s.gbr := rfl
@[simp] theorem State.setFpscr_vbr (v : Word) : (s.setFpscr v).vbr = s.vbr := rfl
@[simp] theorem State.setFpscr_ssr (v : Word) : (s.setFpscr v).ssr = s.ssr := rfl
@[simp] theorem State.setFpscr_spc (v : Word) : (s.setFpscr v).spc = s.spc := rfl
@[simp] theorem State.setFpscr_sgr (v : Word) : (s.setFpscr v).sgr = s.sgr := rfl
@[simp] theorem State.setFpscr_dbr (v : Word) : (s.setFpscr v).dbr = s.dbr := rfl
@[simp] theorem State.setFpscr_mach (v : Word) : (s.setFpscr v).mach = s.mach := rfl
@[simp] theorem State.setFpscr_macl (v : Word) : (s.setFpscr v).macl = s.macl := rfl
@[simp] theorem State.setFpscr_pr (v : Word) : (s.setFpscr v).pr = s.pr := rfl
@[simp] theorem State.setFpscr_fpscr (v : Word) : (s.setFpscr v).fpscr = v &&& Config.fpscrMask := rfl
@[simp] theorem State.setFpscr_fpul (v : Word) : (s.setFpscr v).fpul = s.fpul := rfl
@[simp] theorem State.setFpscr_fb0 (v : Word) : (s.setFpscr v).fb0 = s.fb0 := rfl
@[simp] theorem State.setFpscr_fb1 (v : Word) : (s.setFpscr v).fb1 = s.fb1 := rfl
@[simp] theorem State.setFpscr_mem (v : Word) : (s.setFpscr v).mem = s.mem := rfl
@[simp] theorem State.setFpscr_slot (v : Word) : (s.setFpscr v).slot = s.slot := rfl
@[simp] theorem State.setFpscr_irqs (v : Word) : (s.setFpscr v).irqs = s.irqs := rfl
@[simp] theorem State.setFpscr_asleep (v : Word) : (s.setFpscr v).asleep = s.asleep := rfl
@[simp] theorem State.setFpscr_stored (v : Word) : (s.setFpscr v).stored = s.stored := rfl
@[simp] theorem State.setFpscr_special (v : Word) : (s.setFpscr v).special = s.special := rfl
@[simp] theorem State.setFpscr_freeCtr (v : Word) : (s.setFpscr v).freeCtr = s.freeCtr := rfl
@[simp] theorem State.setFpscr_cfg (v : Word) : (s.setFpscr v).cfg = s.cfg := rfl

/-! ### setR -/

@[simp] theorem State.setR_pc (i : Reg) (v : Word) : (s.setR i v).pc = s.pc := rfl
@[simp] theorem State.setR_sr (i : Reg) (v : Word) : (s.setR i v).sr = s.sr := rfl
@[simp] theorem State.setR_gbr (i : Reg) (v : Word) : (s.setR i v).gbr = s.gbr := rfl
@[simp] theorem State.setR_vbr (i : Reg) (v : Word) : (s.setR i v).vbr = s.vbr := rfl
@[simp] theorem State.setR_ssr (i : Reg) (v : Word) : (s.setR i v).ssr = s.ssr := rfl
@[simp] theorem State.setR_spc (i : Reg) (v : Word) : (s.setR i v).spc = s.spc := rfl
@[simp] theorem State.setR_sgr (i : Reg) (v : Word) : (s.setR i v).sgr = s.sgr := rfl
@[simp] theorem State.setR_dbr (i : Reg) (v : Word) : (s.setR i v).dbr = s.dbr := rfl
@[simp] theorem State.setR_mach (i : Reg) (v : Word) : (s.setR i v).mach = s.mach := rfl
@[simp] theorem State.setR_macl (i : Reg) (v : Word) : (s.setR i v).macl = s.macl := rfl
@[simp] theorem State.setR_pr (i : Reg) (v : Word) : (s.setR i v).pr = s.pr := rfl
@[simp] theorem State.setR_fpscr (i : Reg) (v : Word) : (s.setR i v).fpscr = s.fpscr := rfl
@[simp] theorem State.setR_fpul (i : Reg) (v : Word) : (s.setR i v).fpul = s.fpul := rfl
@[simp] theorem State.setR_fb0 (i : Reg) (v : Word) : (s.setR i v).fb0 = s.fb0 := rfl
@[simp] theorem State.setR_fb1 (i : Reg) (v : Word) : (s.setR i v).fb1 = s.fb1 := rfl
@[simp] theorem State.setR_mem (i : Reg) (v : Word) : (s.setR i v).mem = s.mem := rfl
@[simp] theorem State.setR_slot (i : Reg) (v : Word) : (s.setR i v).slot = s.slot := rfl
@[simp] theorem State.setR_irqs (i : Reg) (v : Word) : (s.setR i v).irqs = s.irqs := rfl
@[simp] theorem State.setR_asleep (i : Reg) (v : Word) : (s.setR i v).asleep = s.asleep := rfl
@[simp] theorem State.setR_stored (i : Reg) (v : Word) : (s.setR i v).stored = s.stored := rfl
@[simp] theorem State.setR_special (i : Reg) (v : Word) : (s.setR i v).special = s.special := rfl
@[simp] theorem State.setR_freeCtr (i : Reg) (v : Word) : (s.setR i v).freeCtr = s.freeCtr := rfl
@[simp] theorem State.setR_cfg (i : Reg) (v : Word) : (s.setR i v).cfg = s.cfg := rfl

/-! ### setOther -/

@[simp] theorem State.setOther_rh (k : BankReg) (v : Word) : (s.setOther k v).rh = s.rh := rfl
@[simp] theorem State.setOther_pc (k : BankReg) (v : Word) : (s.setOther k v).pc = s.pc := rfl
@[simp] theorem State.setOther_sr (k : BankReg) (v : Word) : (s.setOther k v).sr = s.sr := rfl
@[simp] theorem State.setOther_gbr (k : BankReg) (v : Word) : (s.setOther k v).gbr = s.gbr := rfl
@[simp] theorem State.setOther_vbr (k : BankReg) (v : Word) : (s.setOther k v).vbr = s.vbr := rfl
@[simp] theorem State.setOther_ssr (k : BankReg) (v : Word) : (s.setOther k v).ssr = s.ssr := rfl
@[simp] theorem State.setOther_spc (k : BankReg) (v : Word) : (s.setOther k v).spc = s.spc := rfl
@[simp] theorem State.setOther_sgr (k : BankReg) (v : Word) : (s.setOther k v).sgr = s.sgr := rfl
@[simp] theorem State.setOther_dbr (k : BankReg) (v : Word) : (s.setOther k v).dbr = s.dbr := rfl
@[simp] theorem State.setOther_mach (k : BankReg) (v : Word) : (s.setOther k v).mach = s.mach := rfl
@[simp] theorem State.setOther_macl (k : BankReg) (v : Word) : (s.setOther k v).macl = s.macl := rfl
@[simp] theorem State.setOther_pr (k : BankReg) (v : Word) : (s.setOther k v).pr = s.pr := rfl
@[simp] theorem State.setOther_fpscr (k : BankReg) (v : Word) : (s.setOther k v).fpscr = s.fpscr := rfl
@[simp] theorem State.setOther_fpul (k : BankReg) (v : Word) : (s.setOther k v).fpul = s.fpul := rfl
@[simp] theorem State.setOther_fb0 (k : BankReg) (v : Word) : (s.setOther k v).fb0 = s.fb0 := rfl
@[simp] theorem State.setOther_fb1 (k : BankReg) (v : Word) : (s.setOther k v).fb1 = s.fb1 := rfl
@[simp] theorem State.setOther_mem (k : BankReg) (v : Word) : (s.setOther k v).mem = s.mem := rfl
@[simp] theorem State.setOther_slot (k : BankReg) (v : Word) : (s.setOther k v).slot = s.slot := rfl
@[simp] theorem State.setOther_irqs (k : BankReg) (v : Word) : (s.setOther k v).irqs = s.irqs := rfl
@[simp] theorem State.setOther_asleep (k : BankReg) (v : Word) : (s.setOther k v).asleep = s.asleep := rfl
@[simp] theorem State.setOther_stored (k : BankReg) (v : Word) : (s.setOther k v).stored = s.stored := rfl
@[simp] theorem State.setOther_special (k : BankReg) (v : Word) : (s.setOther k v).special = s.special := rfl
@[simp] theorem State.setOther_freeCtr (k : BankReg) (v : Word) : (s.setOther k v).freeCtr = s.freeCtr := rfl
@[simp] theorem State.setOther_cfg (k : BankReg) (v : Word) : (s.setOther k v).cfg = s.cfg := rfl

/-! ### setFb -/

@[simp] theorem State.setFb_bankA (o : Bool) (f : FReg) (v : Word) : (s.setFb o f v).bankA = s.bankA := rfl
@[simp] theorem State.setFb_bankB (o : Bool) (f : FReg) (v : Word) : (s.setFb o f v).bankB = s.bankB := rfl
@[simp] theorem State.setFb_rh (o : Bool) (f : FReg) (v : Word) : (s.setFb o f v).rh = s.rh := rfl
@[simp] theorem State.setFb_pc (o : Bool) (f : FReg) (v : Word) : (s.setFb o f v).pc = s.pc := rfl
@[simp] theorem State.setFb_sr (o : Bool) (f : FReg) (v : Word) : (s.setFb o f v).sr = s.sr := rfl
@[simp] theorem State.setFb_gbr (o : Bool) (f : FReg) (v : Word) : (s.setFb o f v).gbr = s.gbr := rfl
@[simp] theorem State.setFb_vbr (o : Bool) (f : FReg) (v : Word) : (s.setFb o f v).vbr = s.vbr := rfl
@[simp] theorem State.setFb_ssr (o : Bool) (f : FReg) (v : Word) : (s.setFb o f v).ssr = s.ssr := rfl
@[simp] theorem State.setFb_spc (o : Bool) (f : FReg) (v : Word) : (s.setFb o f v).spc = s.spc := rfl
@[simp] theorem State.setFb_sgr (o : Bool) (f : FReg) (v : Word) : (s.setFb o f v).sgr = s.sgr := rfl
@[simp] theorem State.setFb_dbr (o : Bool) (f : FReg) (v : Word) : (s.setFb o f v).dbr = s.dbr := rfl
@[simp] theorem State.setFb_mach (o : Bool) (f : FReg) (v : Word) : (s.setFb o f v).mach = s.mach := rfl
@[simp] theorem State.setFb_macl (o : Bool) (f : FReg) (v : Word) : (s.setFb o f v).macl = s.macl := rfl
@[simp] theorem State.setFb_pr (o : Bool) (f : FReg) (v : Word) : (s.setFb o f v).pr = s.pr := rfl
@[simp] theorem State.setFb_fpscr (o : Bool) (f : FReg) (v : Word) : (s.setFb o f v).fpscr = s.fpscr := rfl
@[simp] theorem State.setFb_fpul (o : Bool) (f : FReg) (v : Word) : (s.setFb o f v).fpul = s.fpul := rfl
@[simp] theorem State.setFb_mem (o : Bool) (f : FReg) (v : Word) : (s.setFb o f v).mem = s.mem := rfl
@[simp] theorem State.setFb_slot (o : Bool) (f : FReg) (v : Word) : (s.setFb o f v).slot = s.slot := rfl
@[simp] theorem State.setFb_irqs (o : Bool) (f : FReg) (v : Word) : (s.setFb o f v).irqs = s.irqs := rfl
@[simp] theorem State.setFb_asleep (o : Bool) (f : FReg) (v : Word) : (s.setFb o f v).asleep = s.asleep := rfl
@[simp] theorem State.setFb_stored (o : Bool) (f : FReg) (v : Word) : (s.setFb o f v).stored = s.stored := rfl
@[simp] theorem State.setFb_special (o : Bool) (f : FReg) (v : Word) : (s.setFb o f v).special = s.special := rfl
@[simp] theorem State.setFb_freeCtr (o : Bool) (f : FReg) (v : Word) : (s.setFb o f v).freeCtr = s.freeCtr := rfl
@[simp] theorem State.setFb_cfg (o : Bool) (f : FReg) (v : Word) : (s.setFb o f v).cfg = s.cfg := rfl

/-! ### setFr -/

@[simp] theorem State.setFr_bankA (f : FReg) (v : Word) : (s.setFr f v).bankA = s.bankA := rfl
@[simp] theorem State.setFr_bankB (f : FReg) (v : Word) : (s.setFr f v).bankB = s.bankB := rfl
@[simp] theorem State.setFr_rh (f : FReg) (v : Word) : (s.setFr f v).rh = s.rh := rfl
@[simp] theorem State.setFr_pc (f : FReg) (v : Word) : (s.setFr f v).pc = s.pc := rfl
@[simp] theorem State.setFr_sr (f : FReg) (v : Word) : (s.setFr f v).sr = s.sr := rfl
@[simp] theorem State.setFr_gbr (f : FReg) (v : Word) : (s.setFr f v).gbr = s.gbr := rfl
@[simp] theorem State.setFr_vbr (f : FReg) (v : Word) : (s.setFr f v).vbr = s.vbr := rfl
@[simp] theorem State.setFr_ssr (f : FReg) (v : Word) : (s.setFr f v).ssr = s.ssr := rfl
@[simp] theorem State.setFr_spc (f : FReg) (v : Word) : (s.setFr f v).spc = s.spc := rfl
@[simp] theorem State.setFr_sgr (f : FReg) (v : Word) : (s.setFr f v).sgr = s.sgr := rfl
@[simp] theorem State.setFr_dbr (f : FReg) (v : Word) : (s.setFr f v).dbr = s.dbr := rfl
@[simp] theorem State.setFr_mach (f : FReg) (v : Word) : (s.setFr f v).mach = s.mach := rfl
@[simp] theorem State.setFr_macl (f : FReg) (v : Word) : (s.setFr f v).macl = s.macl := rfl
@[simp] theorem State.setFr_pr (f : FReg) (v : Word) : (s.setFr f v).pr = s.pr := rfl
@[simp] theorem State.setFr_fpscr (f : FReg) (v : Word) : (s.setFr f v).fpscr = s.fpscr := rfl
@[simp] theorem State.setFr_fpul (f : FReg) (v : Word) : (s.setFr f v).fpul = s.fpul := rfl
@[simp] theorem State.setFr_mem (f : FReg) (v : Word) : (s.setFr f v).mem = s.mem := rfl
@[simp] theorem State.setFr_slot (f : FReg) (v : Word) : (s.setFr f v).slot = s.slot := rfl
@[simp] theorem State.setFr_irqs (f : FReg) (v : Word) : (s.setFr f v).irqs = s.irqs := rfl
@[simp] theorem State.setFr_asleep (f : FReg) (v : Word) : (s.setFr f v).asleep = s.asleep := rfl
@[simp] theorem State.setFr_stored (f : FReg) (v : Word) : (s.setFr f v).stored = s.stored := rfl
@[simp] theorem State.setFr_special (f : FReg) (v : Word) : (s.setFr f v).special = s.special := rfl
@[simp] theorem State.setFr_freeCtr (f : FReg) (v : Word) : (s.setFr f v).freeCtr = s.freeCtr := rfl
@[simp] theorem State.setFr_cfg (f : FReg) (v : Word) : (s.setFr f v).cfg = s.cfg := rfl

/-! ### setXf -/

@[simp] theorem State.setXf_bankA (f : FReg) (v : Word) : (s.setXf f v).bankA = s.bankA := rfl
@[simp] theorem State.setXf_bankB (f : FReg) (v : Word) : (s.setXf f v).bankB = s.bankB := rfl
@[simp] theorem State.setXf_rh (f : FReg) (v : Word) : (s.setXf f v).rh = s.rh := rfl
@[simp] theorem State.setXf_pc (f : FReg) (v : Word) : (s.setXf f v).pc = s.pc := rfl
@[simp] theorem State.setXf_sr (f : FReg) (v : Word) : (s.setXf f v).sr = s.sr := rfl
@[simp] theorem State.setXf_gbr (f : FReg) (v : Word) : (s.setXf f v).gbr = s.gbr := rfl
@[simp] theorem State.setXf_vbr (f : FReg) (v : Word) : (s.setXf f v).vbr = s.vbr := rfl
@[simp] theorem State.setXf_ssr (f : FReg) (v : Word) : (s.setXf f v).ssr = s.ssr := rfl
@[simp] theorem State.setXf_spc (f : FReg) (v : Word) : (s.setXf f v).spc = s.spc := rfl
@[simp] theorem State.setXf_sgr (f : FReg) (v : Word) : (s.setXf f v).sgr = s.sgr := rfl
@[simp] theorem State.setXf_dbr (f : FReg) (v : Word) : (s.setXf f v).dbr = s.dbr := rfl
@[simp] theorem State.setXf_mach (f : FReg) (v : Word) : (s.setXf f v).mach = s.mach := rfl
@[simp] theorem State.setXf_macl (f : FReg) (v : Word) : (s.setXf f v).macl = s.macl := rfl
@[simp] theorem State.setXf_pr (f : FReg) (v : Word) : (s.setXf f v).pr = s.pr := rfl
@[simp] theorem State.setXf_fpscr (f : FReg) (v : Word) : (s.setXf f v).fpscr = s.fpscr := rfl
@[simp] theorem State.setXf_fpul (f : FReg) (v : Word) : (s.setXf f v).fpul = s.fpul := rfl
@[simp] theorem State.setXf_mem (f : FReg) (v : Word) : (s.setXf f v).mem = s.mem := rfl
@[simp] theorem State.setXf_slot (f : FReg) (v : Word) : (s.setXf f v).slot = s.slot := rfl
@[simp] theorem State.setXf_irqs (f : FReg) (v : Word) : (s.setXf f v).irqs = s.irqs := rfl
@[simp] theorem State.setXf_asleep (f : FReg) (v : Word) : (s.setXf f v).asleep = s.asleep := rfl
@[simp] theorem State.setXf_stored (f : FReg) (v : Word) : (s.setXf f v).stored = s.stored := rfl
@[simp] theorem State.setXf_special (f : FReg) (v : Word) : (s.setXf f v).special = s.special := rfl
@[simp] theorem State.setXf_freeCtr (f : FReg) (v : Word) : (s.setXf f v).freeCtr = s.freeCtr := rfl
@[simp] theorem State.setXf_cfg (f : FReg) (v : Word) : (s.setXf f v).cfg = s.cfg := rfl

/-! ### setDr -/

@[simp] theorem State.setDr_bankA (f : FReg) (v : BitVec 64) : (s.setDr f v).bankA = s.bankA := rfl
@[simp] theorem State.setDr_bankB (f : FReg) (v : BitVec 64) : (s.setDr f v).bankB = s.bankB := rfl
@[simp] theorem State.setDr_rh (f : FReg) (v : BitVec 64) : (s.setDr f v).rh = s.rh := rfl
@[simp] theorem State.setDr_pc (f : FReg) (v : BitVec 64) : (s.setDr f v).pc = s.pc := rfl
@[simp] theorem State.setDr_sr (f : FReg) (v : BitVec 64) : (s.setDr f v).sr = s.sr := rfl
@[simp] theorem State.setDr_gbr (f : FReg) (v : BitVec 64) : (s.setDr f v).gbr = s.gbr := rfl
@[simp] theorem State.setDr_vbr (f : FReg) (v : BitVec 64) : (s.setDr f v).vbr = s.vbr := rfl
@[simp] theorem State.setDr_ssr (f : FReg) (v : BitVec 64) : (s.setDr f v).ssr = s.ssr := rfl
@[simp] theorem State.setDr_spc (f : FReg) (v : BitVec 64) : (s.setDr f v).spc = s.spc := rfl
@[simp] theorem State.setDr_sgr (f : FReg) (v : BitVec 64) : (s.setDr f v).sgr = s.sgr := rfl
@[simp] theorem State.setDr_dbr (f : FReg) (v : BitVec 64) : (s.setDr f v).dbr = s.dbr := rfl
@[simp] theorem State.setDr_mach (f : FReg) (v : BitVec 64) : (s.setDr f v).mach = s.mach := rfl
@[simp] theorem State.setDr_macl (f : FReg) (v : BitVec 64) : (s.setDr f v).macl = s.macl := rfl
@[simp] theorem State.setDr_pr (f : FReg) (v : BitVec 64) : (s.setDr f v).pr = s.pr := rfl
@[simp] theorem State.setDr_fpscr (f : FReg) (v : BitVec 64) : (s.setDr f v).fpscr = s.fpscr := rfl
@[simp] theorem State.setDr_fpul (f : FReg) (v : BitVec 64) : (s.setDr f v).fpul = s.fpul := rfl
@[simp] theorem State.setDr_mem (f : FReg) (v : BitVec 64) : (s.setDr f v).mem = s.mem := rfl
@[simp] theorem State.setDr_slot (f : FReg) (v : BitVec 64) : (s.setDr f v).slot = s.slot := rfl
@[simp] theorem State.setDr_irqs (f : FReg) (v : BitVec 64) : (s.setDr f v).irqs = s.irqs := rfl
@[simp] theorem State.setDr_asleep (f : FReg) (v : BitVec 64) : (s.setDr f v).asleep = s.asleep := rfl
@[simp] theorem State.setDr_stored (f : FReg) (v : BitVec 64) : (s.setDr f v).stored = s.stored := rfl
@[simp] theorem State.setDr_special (f : FReg) (v : BitVec 64) : (s.setDr f v).special = s.special := rfl
@[simp] theorem State.setDr_freeCtr (f : FReg) (v : BitVec 64) : (s.setDr f v).freeCtr = s.freeCtr := rfl
@[simp] theorem State.setDr_cfg (f : FReg) (v : BitVec 64) : (s.setDr f v).cfg = s.cfg := rfl

/-! ### setPair -/

@[simp] theorem State.setPair_bankA (f : FReg) (v : Word × Word) : (s.setPair f v).bankA = s.bankA := rfl
@[simp] theorem State.setPair_bankB (f : FReg) (v : Word × Word) : (s.setPair f v).bankB = s.bankB := rfl
@[simp] theorem State.setPair_rh (f : FReg) (v : Word × Word) : (s.setPair f v).rh = s.rh := rfl
@[simp] theorem State.setPair_pc (f : FReg) (v : Word × Word) : (s.setPair f v).pc = s.pc := rfl
@[simp] theorem State.setPair_sr (f : FReg) (v : Word × Word) : (s.setPair f v).sr = s.sr := rfl
@[simp] theorem State.setPair_gbr (f : FReg) (v : Word × Word) : (s.setPair f v).gbr = s.gbr := rfl
@[simp] theorem State.setPair_vbr (f : FReg) (v : Word × Word) : (s.setPair f v).vbr = s.vbr := rfl
@[simp] theorem State.setPair_ssr (f : FReg) (v : Word × Word) : (s.setPair f v).ssr = s.ssr := rfl
@[simp] theorem State.setPair_spc (f : FReg) (v : Word × Word) : (s.setPair f v).spc = s.spc := rfl
@[simp] theorem State.setPair_sgr (f : FReg) (v : Word × Word) : (s.setPair f v).sgr = s.sgr := rfl
@[simp] theorem State.setPair_dbr (f : FReg) (v : Word × Word) : (s.setPair f v).dbr = s.dbr := rfl
@[simp] theorem State.setPair_mach (f : FReg) (v : Word × Word) : (s.setPair f v).mach = s.mach := rfl
@[simp] theorem State.setPair_macl (f : FReg) (v : Word × Word) : (s.setPair f v).macl = s.macl := rfl
@[simp] theorem State.setPair_pr (f : FReg) (v : Word × Word) : (s.setPair f v).pr = s.pr := rfl
@[simp] theorem State.setPair_fpscr (f : FReg) (v : Word × Word) : (s.setPair f v).fpscr = s.fpscr := rfl
@[simp] theorem State.setPair_fpul (f : FReg) (v : Word × Word) : (s.setPair f v).fpul = s.fpul := rfl
@[simp] theorem State.setPair_mem (f : FReg) (v : Word × Word) : (s.setPair f v).mem = s.mem := rfl
@[simp] theorem State.setPair_slot (f : FReg) (v : Word × Word) : (s.setPair f v).slot = s.slot := rfl
@[simp] theorem State.setPair_irqs (f : FReg) (v : Word × Word) : (s.setPair f v).irqs = s.irqs := rfl
@[simp] theorem State.setPair_asleep (f : FReg) (v : Word × Word) : (s.setPair f v).asleep = s.asleep := rfl
@[simp] theorem State.setPair_stored (f : FReg) (v : Word × Word) : (s.setPair f v).stored = s.stored := rfl
@[simp] theorem State.setPair_special (f : FReg) (v : Word × Word) : (s.setPair f v).special = s.special := rfl
@[simp] theorem State.setPair_freeCtr (f : FReg) (v : Word × Word) : (s.setPair f v).freeCtr = s.freeCtr := rfl
@[simp] theorem State.setPair_cfg (f : FReg) (v : Word × Word) : (s.setPair f v).cfg = s.cfg := rfl

/-! ### setMac -/

@[simp] theorem State.setMac_bankA (v : BitVec 64) : (s.setMac v).bankA = s.bankA := rfl
@[simp] theorem State.setMac_bankB (v : BitVec 64) : (s.setMac v).bankB = s.bankB := rfl
@[simp] theorem State.setMac_rh (v : BitVec 64) : (s.setMac v).rh = s.rh := rfl
@[simp] theorem State.setMac_pc (v : BitVec 64) : (s.setMac v).pc = s.pc := rfl
@[simp] theorem State.setMac_sr (v : BitVec 64) : (s.setMac v).sr = s.sr := rfl
@[simp] theorem State.setMac_gbr (v : BitVec 64) : (s.setMac v).gbr = s.gbr := rfl
@[simp] theorem State.setMac_vbr (v : BitVec 64) : (s.setMac v).vbr = s.vbr := rfl
@[simp] theorem State.setMac_ssr (v : BitVec 64) : (s.setMac v).ssr = s.ssr := rfl
@[simp] theorem State.setMac_spc (v : BitVec 64) : (s.setMac v).spc = s.spc := rfl
@[simp] theorem State.setMac_sgr (v : BitVec 64) : (s.setMac v).sgr = s.sgr := rfl
@[simp] theorem State.setMac_dbr (v : BitVec 64) : (s.setMac v).dbr = s.dbr := rfl
@[simp] theorem State.setMac_mach (v : BitVec 64) : (s.setMac v).mach = v.extractLsb' 32 32 := rfl
@[simp] theorem State.setMac_macl (v : BitVec 64) : (s.setMac v).macl = v.extractLsb' 0 32 := rfl
@[simp] theorem State.setMac_pr (v : BitVec 64) : (s.setMac v).pr = s.pr := rfl
@[simp] theorem State.setMac_fpscr (v : BitVec 64) : (s.setMac v).fpscr = s.fpscr := rfl
@[simp] theorem State.setMac_fpul (v : BitVec 64) : (s.setMac v).fpul = s.fpul := rfl
@[simp] theorem State.setMac_fb0 (v : BitVec 64) : (s.setMac v).fb0 = s.fb0 := rfl
@[simp] theorem State.setMac_fb1 (v : BitVec 64) : (s.setMac v).fb1 = s.fb1 := rfl
@[simp] theorem State.setMac_mem (v : BitVec 64) : (s.setMac v).mem = s.mem := rfl
@[simp] theorem State.setMac_slot (v : BitVec 64) : (s.setMac v).slot = s.slot := rfl
@[simp] theorem State.setMac_irqs (v : BitVec 64) : (s.setMac v).irqs = s.irqs := rfl
@[simp] theorem State.setMac_asleep (v : BitVec 64) : (s.setMac v).asleep = s.asleep := rfl
@[simp] theorem State.setMac_stored (v : BitVec 64) : (s.setMac v).stored = s.stored := rfl
@[simp] theorem State.setMac_special (v : BitVec 64) : (s.setMac v).special = s.special := rfl
@[simp] theorem State.setMac_freeCtr (v : BitVec 64) : (s.setMac v).freeCtr = s.freeCtr := rfl
@[simp] theorem State.setMac_cfg (v : BitVec 64) : (s.setMac v).cfg = s.cfg := rfl

/-! ### storeAt -/

@[simp] theorem State.storeAt_bankA (sz : Size) (a : Nat) (v : Word) : (s.storeAt sz a v).bankA = s.bankA := rfl
@[simp] theorem State.storeAt_bankB (sz : Size) (a : Nat) (v : Word) : (s.storeAt sz a v).bankB = s.bankB := rfl
@[simp] theorem State.storeAt_rh (sz : Size) (a : Nat) (v : Word) : (s.storeAt sz a v).rh = s.rh := rfl
@[simp] theorem State.storeAt_pc (sz : Size) (a : Nat) (v : Word) : (s.storeAt sz a v).pc = s.pc := rfl
@[simp] theorem State.storeAt_sr (sz : Size) (a : Nat) (v : Word) : (s.storeAt sz a v).sr = s.sr := rfl
@[simp] theorem State.storeAt_gbr (sz : Size) (a : Nat) (v : Word) : (s.storeAt sz a v).gbr = s.gbr := rfl
@[simp] theorem State.storeAt_vbr (sz : Size) (a : Nat) (v : Word) : (s.storeAt sz a v).vbr = s.vbr := rfl
@[simp] theorem State.storeAt_ssr (sz : Size) (a : Nat) (v : Word) : (s.storeAt sz a v).ssr = s.ssr := rfl
@[simp] theorem State.storeAt_spc (sz : Size) (a : Nat) (v : Word) : (s.storeAt sz a v).spc = s.spc := rfl
@[simp] theorem State.storeAt_sgr (sz : Size) (a : Nat) (v : Word) : (s.storeAt sz a v).sgr = s.sgr := rfl
@[simp] theorem State.storeAt_dbr (sz : Size) (a : Nat) (v : Word) : (s.storeAt sz a v).dbr = s.dbr := rfl
@[simp] theorem State.storeAt_mach (sz : Size) (a : Nat) (v : Word) : (s.storeAt sz a v).mach = s.mach := rfl
@[simp] theorem State.storeAt_macl (sz : Size) (a : Nat) (v : Word) : (s.storeAt sz a v).macl = s.macl := rfl
@[simp] theorem State.storeAt_pr (sz : Size) (a : Nat) (v : Word) : (s.storeAt sz a v).pr = s.pr := rfl
@[simp] theorem State.storeAt_fpscr (sz : Size) (a : Nat) (v : Word) : (s.storeAt sz a v).fpscr = s.fpscr := rfl
@[simp] theorem State.storeAt_fpul (sz : Size) (a : Nat) (v : Word) : (s.storeAt sz a v).fpul = s.fpul := rfl
@[simp] theorem State.storeAt_fb0 (sz : Size) (a : Nat) (v : Word) : (s.storeAt sz a v).fb0 = s.fb0 := rfl
@[simp] theorem State.storeAt_fb1 (sz : Size) (a : Nat) (v : Word) : (s.storeAt sz a v).fb1 = s.fb1 := rfl
@[simp] theorem State.storeAt_mem (sz : Size) (a : Nat) (v : Word) : (s.storeAt sz a v).mem = memPutAll s.mem a (bytesOfValue s.cfg.endianLocal sz v) := rfl
@[simp] theorem State.storeAt_slot (sz : Size) (a : Nat) (v : Word) : (s.storeAt sz a v).slot = s.slot := rfl
@[simp] theorem State.storeAt_irqs (sz : Size) (a : Nat) (v : Word) : (s.storeAt sz a v).irqs = s.irqs := rfl
@[simp] theorem State.storeAt_asleep (sz : Size) (a : Nat) (v : Word) : (s.storeAt sz a v).asleep = s.asleep := rfl
@[simp] theorem State.storeAt_stored (sz : Size) (a : Nat) (v : Word) : (s.storeAt sz a v).stored = insertLocs s.stored a sz.bytes := rfl
@[simp] theorem State.storeAt_special (sz : Size) (a : Nat) (v : Word) : (s.storeAt sz a v).special = s.special := rfl
@[simp] theorem State.storeAt_freeCtr (sz : Size) (a : Nat) (v : Word) : (s.storeAt sz a v).freeCtr = s.freeCtr := rfl
@[simp] theorem State.storeAt_cfg (sz : Size) (a : Nat) (v : Word) : (s.storeAt sz a v).cfg = s.cfg := rfl

/-! ### macWord -/

@[simp] theorem State.macWord_bankA (a b : Half) : (s.macWord a b).bankA = s.bankA := rfl
@[simp] theorem State.macWord_bankB (a b : Half) : (s.macWord a b).bankB = s.bankB := rfl
@[simp] theorem State.macWord_rh (a b : Half) : (s.macWord a b).rh = s.rh := rfl
@[simp] theorem State.macWord_pc (a b : Half) : (s.macWord a b).pc = s.pc := rfl
@[simp] theorem State.macWord_sr (a b : Half) : (s.macWord a b).sr = s.sr := rfl
@[simp] theorem State.macWord_gbr (a b : Half) : (s.macWord a b).gbr = s.gbr := rfl
@[simp] theorem State.macWord_vbr (a b : Half) : (s.macWord a b).vbr = s.vbr := rfl
@[simp] theorem State.macWord_ssr (a b : Half) : (s.macWord a b).ssr = s.ssr := rfl
@[simp] theorem State.macWord_spc (a b : Half) : (s.macWord a b).spc = s.spc := rfl
@[simp] theorem State.macWord_sgr (a b : Half) : (s.macWord a b).sgr = s.sgr := rfl
@[simp] theorem State.macWord_dbr (a b : Half) : (s.macWord a b).dbr = s.dbr := rfl
@[simp] theorem State.macWord_mach (a b : Half) : (s.macWord a b).mach = macWordHigh s a b := rfl
@[simp] theorem State.macWord_macl (a b : Half) : (s.macWord a b).macl = macWordLow s a b := rfl
@[simp] theorem State.macWord_pr (a b : Half) : (s.macWord a b).pr = s.pr := rfl
@[simp] theorem State.macWord_fpscr (a b : Half) : (s.macWord a b).fpscr = s.fpscr := rfl
@[simp] theorem State.macWord_fpul (a b : Half) : (s.macWord a b).fpul = s.fpul := rfl
@[simp] theorem State.macWord_fb0 (a b : Half) : (s.macWord a b).fb0 = s.fb0 := rfl
@[simp] theorem State.macWord_fb1 (a b : Half) : (s.macWord a b).fb1 = s.fb1 := rfl
@[simp] theorem State.macWord_mem (a b : Half) : (s.macWord a b).mem = s.mem := rfl
@[simp] theorem State.macWord_slot (a b : Half) : (s.macWord a b).slot = s.slot := rfl
@[simp] theorem State.macWord_irqs (a b : Half) : (s.macWord a b).irqs = s.irqs := rfl
@[simp] theorem State.macWord_asleep (a b : Half) : (s.macWord a b).asleep = s.asleep := rfl
@[simp] theorem State.macWord_stored (a b : Half) : (s.macWord a b).stored = s.stored := rfl
@[simp] theorem State.macWord_special (a b : Half) : (s.macWord a b).special = s.special := rfl
@[simp] theorem State.macWord_freeCtr (a b : Half) : (s.macWord a b).freeCtr = if macWordOverflows s a b then s.freeCtr + 1 else s.freeCtr := rfl
@[simp] theorem State.macWord_cfg (a b : Half) : (s.macWord a b).cfg = s.cfg := rfl

/-! ### pastBoundary -/

@[simp] theorem State.pastBoundary_bankA : (s.pastBoundary).bankA = s.bankA := rfl
@[simp] theorem State.pastBoundary_bankB : (s.pastBoundary).bankB = s.bankB := rfl
@[simp] theorem State.pastBoundary_rh : (s.pastBoundary).rh = s.rh := rfl
@[simp] theorem State.pastBoundary_pc : (s.pastBoundary).pc = s.pc := rfl
@[simp] theorem State.pastBoundary_sr : (s.pastBoundary).sr = s.sr := rfl
@[simp] theorem State.pastBoundary_gbr : (s.pastBoundary).gbr = s.gbr := rfl
@[simp] theorem State.pastBoundary_vbr : (s.pastBoundary).vbr = s.vbr := rfl
@[simp] theorem State.pastBoundary_ssr : (s.pastBoundary).ssr = s.ssr := rfl
@[simp] theorem State.pastBoundary_spc : (s.pastBoundary).spc = s.spc := rfl
@[simp] theorem State.pastBoundary_sgr : (s.pastBoundary).sgr = s.sgr := rfl
@[simp] theorem State.pastBoundary_dbr : (s.pastBoundary).dbr = s.dbr := rfl
@[simp] theorem State.pastBoundary_mach : (s.pastBoundary).mach = s.mach := rfl
@[simp] theorem State.pastBoundary_macl : (s.pastBoundary).macl = s.macl := rfl
@[simp] theorem State.pastBoundary_pr : (s.pastBoundary).pr = s.pr := rfl
@[simp] theorem State.pastBoundary_fpscr : (s.pastBoundary).fpscr = s.fpscr := rfl
@[simp] theorem State.pastBoundary_fpul : (s.pastBoundary).fpul = s.fpul := rfl
@[simp] theorem State.pastBoundary_fb0 : (s.pastBoundary).fb0 = s.fb0 := rfl
@[simp] theorem State.pastBoundary_fb1 : (s.pastBoundary).fb1 = s.fb1 := rfl
@[simp] theorem State.pastBoundary_mem : (s.pastBoundary).mem = s.mem := rfl
@[simp] theorem State.pastBoundary_slot : (s.pastBoundary).slot = s.slot := rfl
@[simp] theorem State.pastBoundary_irqs : (s.pastBoundary).irqs = s.irqs.tail := rfl
@[simp] theorem State.pastBoundary_asleep : (s.pastBoundary).asleep = s.asleep := rfl
@[simp] theorem State.pastBoundary_stored : (s.pastBoundary).stored = s.stored := rfl
@[simp] theorem State.pastBoundary_special : (s.pastBoundary).special = s.special := rfl
@[simp] theorem State.pastBoundary_freeCtr : (s.pastBoundary).freeCtr = s.freeCtr := rfl
@[simp] theorem State.pastBoundary_cfg : (s.pastBoundary).cfg = s.cfg := rfl

/-! ### trapEntry -/

@[simp] theorem trapEntry_bankA (e : Event) : (trapEntry e s).bankA = s.bankA := rfl
@[simp] theorem trapEntry_bankB (e : Event) : (trapEntry e s).bankB = s.bankB := rfl
@[simp] theorem trapEntry_rh (e : Event) : (trapEntry e s).rh = s.rh := rfl
@[simp] theorem trapEntry_pc (e : Event) : (trapEntry e s).pc = s.vbr + vecOffset s.cfg.vec e := rfl
@[simp] theorem trapEntry_sr (e : Event) : (trapEntry e s).sr = s.sr ||| 0x70000000 := rfl
@[simp] theorem trapEntry_gbr (e : Event) : (trapEntry e s).gbr = s.gbr := rfl
@[simp] theorem trapEntry_vbr (e : Event) : (trapEntry e s).vbr = s.vbr := rfl
@[simp] theorem trapEntry_ssr (e : Event) : (trapEntry e s).ssr = s.sr := rfl
@[simp] theorem trapEntry_spc (e : Event) : (trapEntry e s).spc = savedPc s e := rfl
@[simp] theorem trapEntry_sgr (e : Event) : (trapEntry e s).sgr = sgrOnTrap s := rfl
@[simp] theorem trapEntry_dbr (e : Event) : (trapEntry e s).dbr = s.dbr := rfl
@[simp] theorem trapEntry_mach (e : Event) : (trapEntry e s).mach = s.mach := rfl
@[simp] theorem trapEntry_macl (e : Event) : (trapEntry e s).macl = s.macl := rfl
@[simp] theorem trapEntry_pr (e : Event) : (trapEntry e s).pr = s.pr := rfl
@[simp] theorem trapEntry_fpscr (e : Event) : (trapEntry e s).fpscr = s.fpscr := rfl
@[simp] theorem trapEntry_fpul (e : Event) : (trapEntry e s).fpul = s.fpul := rfl
@[simp] theorem trapEntry_fb0 (e : Event) : (trapEntry e s).fb0 = s.fb0 := rfl
@[simp] theorem trapEntry_fb1 (e : Event) : (trapEntry e s).fb1 = s.fb1 := rfl
@[simp] theorem trapEntry_mem (e : Event) : (trapEntry e s).mem = s.mem := rfl
@[simp] theorem trapEntry_slot (e : Event) : (trapEntry e s).slot = none := rfl
@[simp] theorem trapEntry_irqs (e : Event) : (trapEntry e s).irqs = s.irqs := rfl
@[simp] theorem trapEntry_asleep (e : Event) : (trapEntry e s).asleep = false := rfl
@[simp] theorem trapEntry_stored (e : Event) : (trapEntry e s).stored = s.stored := rfl
@[simp] theorem trapEntry_special (e : Event) : (trapEntry e s).special = s.special := rfl
@[simp] theorem trapEntry_freeCtr (e : Event) : (trapEntry e s).freeCtr = s.freeCtr + sgrDraws s := rfl
@[simp] theorem trapEntry_cfg (e : Event) : (trapEntry e s).cfg = s.cfg := rfl

/-! ### The state after an access to a place -/

@[simp] theorem State.noteRead_bankA (sz : Size) (p : Place) : (s.noteRead sz p).bankA = s.bankA := by cases p <;> rfl
@[simp] theorem State.noteRead_bankB (sz : Size) (p : Place) : (s.noteRead sz p).bankB = s.bankB := by cases p <;> rfl
@[simp] theorem State.noteRead_rh (sz : Size) (p : Place) : (s.noteRead sz p).rh = s.rh := by cases p <;> rfl
@[simp] theorem State.noteRead_pc (sz : Size) (p : Place) : (s.noteRead sz p).pc = s.pc := by cases p <;> rfl
@[simp] theorem State.noteRead_sr (sz : Size) (p : Place) : (s.noteRead sz p).sr = s.sr := by cases p <;> rfl
@[simp] theorem State.noteRead_gbr (sz : Size) (p : Place) : (s.noteRead sz p).gbr = s.gbr := by cases p <;> rfl
@[simp] theorem State.noteRead_vbr (sz : Size) (p : Place) : (s.noteRead sz p).vbr = s.vbr := by cases p <;> rfl
@[simp] theorem State.noteRead_ssr (sz : Size) (p : Place) : (s.noteRead sz p).ssr = s.ssr := by cases p <;> rfl
@[simp] theorem State.noteRead_spc (sz : Size) (p : Place) : (s.noteRead sz p).spc = s.spc := by cases p <;> rfl
@[simp] theorem State.noteRead_sgr (sz : Size) (p : Place) : (s.noteRead sz p).sgr = s.sgr := by cases p <;> rfl
@[simp] theorem State.noteRead_dbr (sz : Size) (p : Place) : (s.noteRead sz p).dbr = s.dbr := by cases p <;> rfl
@[simp] theorem State.noteRead_mach (sz : Size) (p : Place) : (s.noteRead sz p).mach = s.mach := by cases p <;> rfl
@[simp] theorem State.noteRead_macl (sz : Size) (p : Place) : (s.noteRead sz p).macl = s.macl := by cases p <;> rfl
@[simp] theorem State.noteRead_pr (sz : Size) (p : Place) : (s.noteRead sz p).pr = s.pr := by cases p <;> rfl
@[simp] theorem State.noteRead_fpscr (sz : Size) (p : Place) : (s.noteRead sz p).fpscr = s.fpscr := by cases p <;> rfl
@[simp] theorem State.noteRead_fpul (sz : Size) (p : Place) : (s.noteRead sz p).fpul = s.fpul := by cases p <;> rfl
@[simp] theorem State.noteRead_fb0 (sz : Size) (p : Place) : (s.noteRead sz p).fb0 = s.fb0 := by cases p <;> rfl
@[simp] theorem State.noteRead_fb1 (sz : Size) (p : Place) : (s.noteRead sz p).fb1 = s.fb1 := by cases p <;> rfl
@[simp] theorem State.noteRead_mem (sz : Size) (p : Place) : (s.noteRead sz p).mem = s.mem := by cases p <;> rfl
@[simp] theorem State.noteRead_slot (sz : Size) (p : Place) : (s.noteRead sz p).slot = s.slot := by cases p <;> rfl
@[simp] theorem State.noteRead_irqs (sz : Size) (p : Place) : (s.noteRead sz p).irqs = s.irqs := by cases p <;> rfl
@[simp] theorem State.noteRead_asleep (sz : Size) (p : Place) : (s.noteRead sz p).asleep = s.asleep := by cases p <;> rfl
@[simp] theorem State.noteRead_stored (sz : Size) (p : Place) : (s.noteRead sz p).stored = s.stored := by cases p <;> rfl
@[simp] theorem State.noteRead_freeCtr (sz : Size) (p : Place) : (s.noteRead sz p).freeCtr = s.freeCtr := by cases p <;> rfl
@[simp] theorem State.noteRead_cfg (sz : Size) (p : Place) : (s.noteRead sz p).cfg = s.cfg := by cases p <;> rfl
@[simp] theorem State.noteRead_mem_eq (sz : Size) (a : Nat) : (s.noteRead sz (.mem a)) = s := rfl

@[simp] theorem State.noteWrite_bankA (sz : Size) (v : Word) (p : Place) : (s.noteWrite sz v p).bankA = s.bankA := by cases p <;> rfl
@[simp] theorem State.noteWrite_bankB (sz : Size) (v : Word) (p : Place) : (s.noteWrite sz v p).bankB = s.bankB := by cases p <;> rfl
@[simp] theorem State.noteWrite_rh (sz : Size) (v : Word) (p : Place) : (s.noteWrite sz v p).rh = s.rh := by cases p <;> rfl
@[simp] theorem State.noteWrite_pc (sz : Size) (v : Word) (p : Place) : (s.noteWrite sz v p).pc = s.pc := by cases p <;> rfl
@[simp] theorem State.noteWrite_sr (sz : Size) (v : Word) (p : Place) : (s.noteWrite sz v p).sr = s.sr := by cases p <;> rfl
@[simp] theorem State.noteWrite_gbr (sz : Size) (v : Word) (p : Place) : (s.noteWrite sz v p).gbr = s.gbr := by cases p <;> rfl
@[simp] theorem State.noteWrite_vbr (sz : Size) (v : Word) (p : Place) : (s.noteWrite sz v p).vbr = s.vbr := by cases p <;> rfl
@[simp] theorem State.noteWrite_ssr (sz : Size) (v : Word) (p : Place) : (s.noteWrite sz v p).ssr = s.ssr := by cases p <;> rfl
@[simp] theorem State.noteWrite_spc (sz : Size) (v : Word) (p : Place) : (s.noteWrite sz v p).spc = s.spc := by cases p <;> rfl
@[simp] theorem State.noteWrite_sgr (sz : Size) (v : Word) (p : Place) : (s.noteWrite sz v p).sgr = s.sgr := by cases p <;> rfl
@[simp] theorem State.noteWrite_dbr (sz : Size) (v : Word) (p : Place) : (s.noteWrite sz v p).dbr = s.dbr := by cases p <;> rfl
@[simp] theorem State.noteWrite_mach (sz : Size) (v : Word) (p : Place) : (s.noteWrite sz v p).mach = s.mach := by cases p <;> rfl
@[simp] theorem State.noteWrite_macl (sz : Size) (v : Word) (p : Place) : (s.noteWrite sz v p).macl = s.macl := by cases p <;> rfl
@[simp] theorem State.noteWrite_pr (sz : Size) (v : Word) (p : Place) : (s.noteWrite sz v p).pr = s.pr := by cases p <;> rfl
@[simp] theorem State.noteWrite_fpscr (sz : Size) (v : Word) (p : Place) : (s.noteWrite sz v p).fpscr = s.fpscr := by cases p <;> rfl
@[simp] theorem State.noteWrite_fpul (sz : Size) (v : Word) (p : Place) : (s.noteWrite sz v p).fpul = s.fpul := by cases p <;> rfl
@[simp] theorem State.noteWrite_fb0 (sz : Size) (v : Word) (p : Place) : (s.noteWrite sz v p).fb0 = s.fb0 := by cases p <;> rfl
@[simp] theorem State.noteWrite_fb1 (sz : Size) (v : Word) (p : Place) : (s.noteWrite sz v p).fb1 = s.fb1 := by cases p <;> rfl
@[simp] theorem State.noteWrite_mem (sz : Size) (v : Word) (p : Place) : (s.noteWrite sz v p).mem = s.mem := by cases p <;> rfl
@[simp] theorem State.noteWrite_slot (sz : Size) (v : Word) (p : Place) : (s.noteWrite sz v p).slot = s.slot := by cases p <;> rfl
@[simp] theorem State.noteWrite_irqs (sz : Size) (v : Word) (p : Place) : (s.noteWrite sz v p).irqs = s.irqs := by cases p <;> rfl
@[simp] theorem State.noteWrite_asleep (sz : Size) (v : Word) (p : Place) : (s.noteWrite sz v p).asleep = s.asleep := by cases p <;> rfl
@[simp] theorem State.noteWrite_stored (sz : Size) (v : Word) (p : Place) : (s.noteWrite sz v p).stored = s.stored := by cases p <;> rfl
@[simp] theorem State.noteWrite_freeCtr (sz : Size) (v : Word) (p : Place) : (s.noteWrite sz v p).freeCtr = s.freeCtr := by cases p <;> rfl
@[simp] theorem State.noteWrite_cfg (sz : Size) (v : Word) (p : Place) : (s.noteWrite sz v p).cfg = s.cfg := by cases p <;> rfl
@[simp] theorem State.noteWrite_mem_eq (sz : Size) (v : Word) (a : Nat) : (s.noteWrite sz v (.mem a)) = s := rfl

@[simp] theorem State.storeTo_bankA (sz : Size) (v : Word) (p : Place) : (s.storeTo sz v p).bankA = s.bankA := by cases p <;> rfl
@[simp] theorem State.storeTo_bankB (sz : Size) (v : Word) (p : Place) : (s.storeTo sz v p).bankB = s.bankB := by cases p <;> rfl
@[simp] theorem State.storeTo_rh (sz : Size) (v : Word) (p : Place) : (s.storeTo sz v p).rh = s.rh := by cases p <;> rfl
@[simp] theorem State.storeTo_pc (sz : Size) (v : Word) (p : Place) : (s.storeTo sz v p).pc = s.pc := by cases p <;> rfl
@[simp] theorem State.storeTo_sr (sz : Size) (v : Word) (p : Place) : (s.storeTo sz v p).sr = s.sr := by cases p <;> rfl
@[simp] theorem State.storeTo_gbr (sz : Size) (v : Word) (p : Place) : (s.storeTo sz v p).gbr = s.gbr := by cases p <;> rfl
@[simp] theorem State.storeTo_vbr (sz : Size) (v : Word) (p : Place) : (s.storeTo sz v p).vbr = s.vbr := by cases p <;> rfl
@[simp] theorem State.storeTo_ssr (sz : Size) (v : Word) (p : Place) : (s.storeTo sz v p).ssr = s.ssr := by cases p <;> rfl
@[simp] theorem State.storeTo_spc (sz : Size) (v : Word) (p : Place) : (s.storeTo sz v p).spc = s.spc := by cases p <;> rfl
@[simp] theorem State.storeTo_sgr (sz : Size) (v : Word) (p : Place) : (s.storeTo sz v p).sgr = s.sgr := by cases p <;> rfl
@[simp] theorem State.storeTo_dbr (sz : Size) (v : Word) (p : Place) : (s.storeTo sz v p).dbr = s.dbr := by cases p <;> rfl
@[simp] theorem State.storeTo_mach (sz : Size) (v : Word) (p : Place) : (s.storeTo sz v p).mach = s.mach := by cases p <;> rfl
@[simp] theorem State.storeTo_macl (sz : Size) (v : Word) (p : Place) : (s.storeTo sz v p).macl = s.macl := by cases p <;> rfl
@[simp] theorem State.storeTo_pr (sz : Size) (v : Word) (p : Place) : (s.storeTo sz v p).pr = s.pr := by cases p <;> rfl
@[simp] theorem State.storeTo_fpscr (sz : Size) (v : Word) (p : Place) : (s.storeTo sz v p).fpscr = s.fpscr := by cases p <;> rfl
@[simp] theorem State.storeTo_fpul (sz : Size) (v : Word) (p : Place) : (s.storeTo sz v p).fpul = s.fpul := by cases p <;> rfl
@[simp] theorem State.storeTo_fb0 (sz : Size) (v : Word) (p : Place) : (s.storeTo sz v p).fb0 = s.fb0 := by cases p <;> rfl
@[simp] theorem State.storeTo_fb1 (sz : Size) (v : Word) (p : Place) : (s.storeTo sz v p).fb1 = s.fb1 := by cases p <;> rfl
@[simp] theorem State.storeTo_slot (sz : Size) (v : Word) (p : Place) : (s.storeTo sz v p).slot = s.slot := by cases p <;> rfl
@[simp] theorem State.storeTo_irqs (sz : Size) (v : Word) (p : Place) : (s.storeTo sz v p).irqs = s.irqs := by cases p <;> rfl
@[simp] theorem State.storeTo_asleep (sz : Size) (v : Word) (p : Place) : (s.storeTo sz v p).asleep = s.asleep := by cases p <;> rfl
@[simp] theorem State.storeTo_freeCtr (sz : Size) (v : Word) (p : Place) : (s.storeTo sz v p).freeCtr = s.freeCtr := by cases p <;> rfl
@[simp] theorem State.storeTo_cfg (sz : Size) (v : Word) (p : Place) : (s.storeTo sz v p).cfg = s.cfg := by cases p <;> rfl
@[simp] theorem State.storeTo_mem_eq (sz : Size) (v : Word) (a : Nat) : s.storeTo sz v (.mem a) = s.storeAt sz a v := rfl
@[simp] theorem State.storeTo_stored (sz : Size) (v : Word) (p : Place) :
    (s.storeTo sz v p).stored = insertLocs s.stored p.loc sz.bytes := by cases p <;> rfl
@[simp] theorem State.storeTo_special (sz : Size) (v : Word) (p : Place) :
    (s.storeTo sz v p).special = (s.noteWrite sz v p).special := by cases p <;> rfl


/-! ### advance -/

@[simp] theorem State.advance_bankA : s.advance.bankA = s.bankA := by unfold State.advance; split <;> rfl
@[simp] theorem State.advance_bankB : s.advance.bankB = s.bankB := by unfold State.advance; split <;> rfl
@[simp] theorem State.advance_rh : s.advance.rh = s.rh := by unfold State.advance; split <;> rfl
@[simp] theorem State.advance_sr : s.advance.sr = s.sr := by unfold State.advance; split <;> rfl
@[simp] theorem State.advance_gbr : s.advance.gbr = s.gbr := by unfold State.advance; split <;> rfl
@[simp] theorem State.advance_vbr : s.advance.vbr = s.vbr := by unfold State.advance; split <;> rfl
@[simp] theorem State.advance_ssr : s.advance.ssr = s.ssr := by unfold State.advance; split <;> rfl
@[simp] theorem State.advance_spc : s.advance.spc = s.spc := by unfold State.advance; split <;> rfl
@[simp] theorem State.advance_sgr : s.advance.sgr = s.sgr := by unfold State.advance; split <;> rfl
@[simp] theorem State.advance_dbr : s.advance.dbr = s.dbr := by unfold State.advance; split <;> rfl
@[simp] theorem State.advance_mach : s.advance.mach = s.mach := by unfold State.advance; split <;> rfl
@[simp] theorem State.advance_macl : s.advance.macl = s.macl := by unfold State.advance; split <;> rfl
@[simp] theorem State.advance_pr : s.advance.pr = s.pr := by unfold State.advance; split <;> rfl
@[simp] theorem State.advance_fpscr : s.advance.fpscr = s.fpscr := by unfold State.advance; split <;> rfl
@[simp] theorem State.advance_fpul : s.advance.fpul = s.fpul := by unfold State.advance; split <;> rfl
@[simp] theorem State.advance_fb0 : s.advance.fb0 = s.fb0 := by unfold State.advance; split <;> rfl
@[simp] theorem State.advance_fb1 : s.advance.fb1 = s.fb1 := by unfold State.advance; split <;> rfl
@[simp] theorem State.advance_mem : s.advance.mem = s.mem := by unfold State.advance; split <;> rfl
@[simp] theorem State.advance_irqs : s.advance.irqs = s.irqs := by unfold State.advance; split <;> rfl
@[simp] theorem State.advance_asleep : s.advance.asleep = s.asleep := by unfold State.advance; split <;> rfl
@[simp] theorem State.advance_stored : s.advance.stored = s.stored := by unfold State.advance; split <;> rfl
@[simp] theorem State.advance_special : s.advance.special = s.special := by unfold State.advance; split <;> rfl
@[simp] theorem State.advance_freeCtr : s.advance.freeCtr = s.freeCtr := by unfold State.advance; split <;> rfl
@[simp] theorem State.advance_cfg : s.advance.cfg = s.cfg := by unfold State.advance; split <;> rfl

@[simp] theorem State.advance_slot : s.advance.slot = none := by
  unfold State.advance; split
  · rfl
  · assumption

theorem State.advance_of_none (h : s.slot = none) : s.advance = { s with pc := s.pc + 2 } := by
  unfold State.advance; rw [h]

theorem State.advance_of_some {t : Slot} (h : s.slot = some t) :
    s.advance = { s with pc := t.target, slot := none } := by
  unfold State.advance; rw [h]


end Sys2Proof.Machine
end

