-- ==== Sys2Proof/Laws/Registers.lean ====
section
/-! SUPPORT. Reading a register or a flag after a write: the general registers and their banks, the FPU
registers, and the bits of SR. -/

namespace Sys2Proof.Machine

/-! ### One bit of a word -/

theorem getLsbD_setBit (w : Word) (i j : Nat) (b : Bool) (hi : i < 32) :
    (setBit w i b).getLsbD j = if j = i then b else w.getLsbD j := by
  unfold setBit
  by_cases hj : j < 32
  · by_cases h : j = i
    · subst h
      cases b <;> simp [hj]
    · rw [if_neg h]
      have h1 : (1#32 <<< i).getLsbD j = false := by
        simp only [BitVec.getLsbD_shiftLeft, BitVec.getLsbD_one]
        by_cases hlt : j < i
        · simp [hlt]
        · simp; omega
      have h2 : ((BitVec.ofBool b).setWidth 32 <<< i).getLsbD j = false := by
        simp only [BitVec.getLsbD_shiftLeft, BitVec.getLsbD_setWidth, BitVec.getLsbD_ofBool]
        by_cases hlt : j < i
        · simp [hlt]
        · have : ¬ (j - i = 0) := by omega
          simp [this]
      rw [BitVec.getLsbD_or, BitVec.getLsbD_and, BitVec.getLsbD_not, h1, h2]
      simp [hj]
  · have hne : j ≠ i := by omega
    rw [if_neg hne, BitVec.getLsbD_of_ge _ _ (by omega), BitVec.getLsbD_of_ge _ _ (by omega)]

theorem getLsbD_setBit_ne {w : Word} {i j : Nat} {b : Bool} (hi : i < 32) (h : j ≠ i) :
    (setBit w i b).getLsbD j = w.getLsbD j := by rw [getLsbD_setBit w i j b hi, if_neg h]

@[simp] theorem getElem_setBit {w : Word} {i j : Nat} {b : Bool} (hj : j < 32) (hi : i < 32) :
    (setBit w i b)[j] = if j = i then b else w[j] := by
  rw [← BitVec.getLsbD_eq_getElem, getLsbD_setBit w i j b hi, BitVec.getLsbD_eq_getElem hj]

@[simp] theorem State.t_setT (s : State) (b : Bool) : (s.setT b).t = b := by
  rw [State.t, State.setT_sr, getLsbD_setBit _ _ _ _ (by decide), if_pos rfl]

/-- Writing T, S, Q or M leaves the bank selection. -/
theorem bankIsB_setBit {b : BankSelect} {w : Word} {i : Nat} {v : Bool} (h : i < 29) :
    bankIsB b (setBit w i v) = bankIsB b w := by
  unfold bankIsB
  rw [getLsbD_setBit_ne (by omega) (by omega), getLsbD_setBit_ne (by omega) (by omega)]

@[simp] theorem State.onB_setT (s : State) (b : Bool) : (s.setT b).onB = s.onB := bankIsB_setBit (by decide)
@[simp] theorem State.onB_setS (s : State) (b : Bool) : (s.setS b).onB = s.onB := bankIsB_setBit (by decide)
@[simp] theorem State.onB_setQ (s : State) (b : Bool) : (s.setQ b).onB = s.onB := bankIsB_setBit (by decide)
@[simp] theorem State.onB_setM (s : State) (b : Bool) : (s.setM b).onB = s.onB := bankIsB_setBit (by decide)

/-! ### The general registers -/

theorem bankGet_bankSet (b : Vector Word 8) (k j : BankReg) (v : Word) :
    bankGet (bankSet b k v) j = if j = k then v else bankGet b j := by
  unfold bankGet bankSet
  rw [Vector.getElem_set]
  simp only [BitVec.toNat_eq, eq_comm (a := k.toNat)]

/-- A register number is its top bit and its place in a bank. -/
theorem reg_eq_iff (i j : Reg) : i = j ↔ i.msb = j.msb ∧ lowReg i = lowReg j := by
  constructor
  · rintro rfl; exact ⟨rfl, rfl⟩
  · revert i j; unfold lowReg; decide

/-- The registers depend on their storage and the bank selection only. -/
theorem State.r_congr {s t : State} (h1 : t.rh = s.rh) (h2 : t.bankA = s.bankA) (h3 : t.bankB = s.bankB)
    (h4 : t.onB = s.onB) (i : Reg) : t.r i = s.r i := by unfold State.r; rw [h1, h2, h3, h4]

theorem State.other_congr {s t : State} (h2 : t.bankA = s.bankA) (h3 : t.bankB = s.bankB)
    (h4 : t.onB = s.onB) (k : BankReg) : t.other k = s.other k := by unfold State.other; rw [h2, h3, h4]

@[simp] theorem State.onB_setR (s : State) (i : Reg) (v : Word) : (s.setR i v).onB = s.onB := rfl
@[simp] theorem State.onB_setOther (s : State) (k : BankReg) (v : Word) : (s.setOther k v).onB = s.onB := rfl
@[simp] theorem State.onB_advance (s : State) : s.advance.onB = s.onB := by simp [State.onB]

/-- Reading a general register after writing one (R33). -/
theorem State.r_setR (s : State) (i j : Reg) (v : Word) :
    (s.setR i v).r j = if j = i then v else s.r j := by
  have e1 : (s.setR i v).rh = if i.msb then bankSet s.rh (lowReg i) v else s.rh := rfl
  have e2 : (s.setR i v).bankB =
    if !i.msb && s.onB then bankSet s.bankB (lowReg i) v else s.bankB := rfl
  have e3 : (s.setR i v).bankA =
    if !i.msb && !s.onB then bankSet s.bankA (lowReg i) v else s.bankA := rfl
  simp only [State.r, State.onB_setR, e1, e2, e3, reg_eq_iff j i]
  cases hi : i.msb <;> cases hj : j.msb <;> cases hb : s.onB <;> simp [bankGet_bankSet]

@[simp] theorem State.r_setR_same (s : State) (i : Reg) (v : Word) : (s.setR i v).r i = v := by
  rw [State.r_setR, if_pos rfl]

theorem State.r_setR_ne {s : State} {i j : Reg} {v : Word} (h : j ≠ i) : (s.setR i v).r j = s.r j := by
  rw [State.r_setR, if_neg h]

/-- Writing a general register leaves the other bank (R35). -/
@[simp] theorem State.other_setR (s : State) (i : Reg) (v : Word) (k : BankReg) :
    (s.setR i v).other k = s.other k := by
  have e2 : (s.setR i v).bankB =
    if !i.msb && s.onB then bankSet s.bankB (lowReg i) v else s.bankB := rfl
  have e3 : (s.setR i v).bankA =
    if !i.msb && !s.onB then bankSet s.bankA (lowReg i) v else s.bankA := rfl
  simp only [State.other, State.onB_setR, e2, e3]
  cases hb : s.onB <;> simp

/-- Writing the other bank leaves the general registers (R35). -/
@[simp] theorem State.r_setOther (s : State) (k : BankReg) (v : Word) (j : Reg) :
    (s.setOther k v).r j = s.r j := by
  have e2 : (s.setOther k v).bankA = if s.onB then bankSet s.bankA k v else s.bankA := rfl
  have e3 : (s.setOther k v).bankB = if s.onB then s.bankB else bankSet s.bankB k v := rfl
  simp only [State.r, State.onB_setOther, e2, e3, State.setOther_rh]
  cases hb : s.onB <;> simp

/-- Reading the other bank after writing it (R35). -/
theorem State.other_setOther (s : State) (k j : BankReg) (v : Word) :
    (s.setOther k v).other j = if j = k then v else s.other j := by
  have e2 : (s.setOther k v).bankA = if s.onB then bankSet s.bankA k v else s.bankA := rfl
  have e3 : (s.setOther k v).bankB = if s.onB then s.bankB else bankSet s.bankB k v := rfl
  simp only [State.other, State.onB_setOther, e2, e3]
  cases hb : s.onB <;> simp [bankGet_bankSet]

@[simp] theorem State.r_setT (s : State) (b : Bool) (i : Reg) : (s.setT b).r i = s.r i :=
  State.r_congr (by rfl) (by rfl) (by rfl) (State.onB_setT s b) i
@[simp] theorem State.r_setS (s : State) (b : Bool) (i : Reg) : (s.setS b).r i = s.r i :=
  State.r_congr (by rfl) (by rfl) (by rfl) (State.onB_setS s b) i
@[simp] theorem State.r_setQ (s : State) (b : Bool) (i : Reg) : (s.setQ b).r i = s.r i :=
  State.r_congr (by rfl) (by rfl) (by rfl) (State.onB_setQ s b) i
@[simp] theorem State.r_setM (s : State) (b : Bool) (i : Reg) : (s.setM b).r i = s.r i :=
  State.r_congr (by rfl) (by rfl) (by rfl) (State.onB_setM s b) i
@[simp] theorem State.other_setT (s : State) (b : Bool) (k : BankReg) : (s.setT b).other k = s.other k :=
  State.other_congr (by rfl) (by rfl) (State.onB_setT s b) k
@[simp] theorem State.other_setS (s : State) (b : Bool) (k : BankReg) : (s.setS b).other k = s.other k :=
  State.other_congr (by rfl) (by rfl) (State.onB_setS s b) k
@[simp] theorem State.other_setQ (s : State) (b : Bool) (k : BankReg) : (s.setQ b).other k = s.other k :=
  State.other_congr (by rfl) (by rfl) (State.onB_setQ s b) k
@[simp] theorem State.other_setM (s : State) (b : Bool) (k : BankReg) : (s.setM b).other k = s.other k :=
  State.other_congr (by rfl) (by rfl) (State.onB_setM s b) k
@[simp] theorem State.r_advance (s : State) (i : Reg) : s.advance.r i = s.r i :=
  State.r_congr (by simp) (by simp) (by simp) (by simp) i
@[simp] theorem State.other_advance (s : State) (k : BankReg) : s.advance.other k = s.other k :=
  State.other_congr (by simp) (by simp) (by simp) k
@[simp] theorem State.r_storeAt (s : State) (sz : Size) (a : Nat) (v : Word) (i : Reg) :
    (s.storeAt sz a v).r i = s.r i := rfl
@[simp] theorem State.other_storeAt (s : State) (sz : Size) (a : Nat) (v : Word) (k : BankReg) :
    (s.storeAt sz a v).other k = s.other k := rfl
@[simp] theorem State.onB_noteRead (s : State) (sz : Size) (p : Place) : (s.noteRead sz p).onB = s.onB := by
  cases p <;> rfl
@[simp] theorem State.onB_noteWrite (s : State) (sz : Size) (v : Word) (p : Place) :
    (s.noteWrite sz v p).onB = s.onB := by cases p <;> rfl
@[simp] theorem State.onB_storeTo (s : State) (sz : Size) (v : Word) (p : Place) :
    (s.storeTo sz v p).onB = s.onB := by cases p <;> rfl
@[simp] theorem State.r_noteRead (s : State) (sz : Size) (p : Place) (i : Reg) :
    (s.noteRead sz p).r i = s.r i := by cases p <;> rfl
@[simp] theorem State.r_noteWrite (s : State) (sz : Size) (v : Word) (p : Place) (i : Reg) :
    (s.noteWrite sz v p).r i = s.r i := by cases p <;> rfl
@[simp] theorem State.r_storeTo (s : State) (sz : Size) (v : Word) (p : Place) (i : Reg) :
    (s.storeTo sz v p).r i = s.r i := by cases p <;> rfl
@[simp] theorem State.other_noteRead (s : State) (sz : Size) (p : Place) (k : BankReg) :
    (s.noteRead sz p).other k = s.other k := by cases p <;> rfl
@[simp] theorem State.other_noteWrite (s : State) (sz : Size) (v : Word) (p : Place) (k : BankReg) :
    (s.noteWrite sz v p).other k = s.other k := by cases p <;> rfl
@[simp] theorem State.other_storeTo (s : State) (sz : Size) (v : Word) (p : Place) (k : BankReg) :
    (s.storeTo sz v p).other k = s.other k := by cases p <;> rfl
@[simp] theorem State.r_setMac (s : State) (v : BitVec 64) (i : Reg) : (s.setMac v).r i = s.r i := rfl
@[simp] theorem State.other_setMac (s : State) (v : BitVec 64) (k : BankReg) :
    (s.setMac v).other k = s.other k := rfl
@[simp] theorem State.r_macWord (s : State) (a b : Half) (i : Reg) : (s.macWord a b).r i = s.r i := rfl
@[simp] theorem State.other_macWord (s : State) (a b : Half) (k : BankReg) :
    (s.macWord a b).other k = s.other k := rfl
@[simp] theorem State.r_setFpscr (s : State) (v : Word) (i : Reg) : (s.setFpscr v).r i = s.r i := rfl
@[simp] theorem State.other_setFpscr (s : State) (v : Word) (k : BankReg) :
    (s.setFpscr v).other k = s.other k := rfl
@[simp] theorem State.r_setFb (s : State) (o : Bool) (f : FReg) (v : Word) (i : Reg) :
    (s.setFb o f v).r i = s.r i := rfl
@[simp] theorem State.other_setFb (s : State) (o : Bool) (f : FReg) (v : Word) (k : BankReg) :
    (s.setFb o f v).other k = s.other k := rfl
@[simp] theorem State.r_setFr (s : State) (f : FReg) (v : Word) (i : Reg) : (s.setFr f v).r i = s.r i := rfl
@[simp] theorem State.r_setDr (s : State) (f : FReg) (v : BitVec 64) (i : Reg) : (s.setDr f v).r i = s.r i := rfl
@[simp] theorem State.r_setPair (s : State) (f : FReg) (v : Word × Word) (i : Reg) :
    (s.setPair f v).r i = s.r i := rfl

/-! ### The FPU registers -/

theorem fbankGet_fbankSet (b : Vector Word 16) (k j : FReg) (v : Word) :
    fbankGet (fbankSet b k v) j = if j = k then v else fbankGet b j := by
  unfold fbankGet fbankSet
  rw [Vector.getElem_set]
  simp only [BitVec.toNat_eq, eq_comm (a := k.toNat)]

/-- Reading a physical FPU register after writing one (R72). -/
theorem State.fb_setFb (s : State) (o p : Bool) (f g : FReg) (v : Word) :
    (s.setFb o f v).fb p g = if p = o ∧ g = f then v else s.fb p g := by
  simp only [State.fb, State.setFb]
  cases o <;> cases p <;> simp [fbankGet_fbankSet]

@[simp] theorem State.frBank_setFb (s : State) (o : Bool) (f : FReg) (v : Word) :
    (s.setFb o f v).frBank = s.frBank := rfl

/-- Reading an FPU register of the front bank after writing one (R68). -/
theorem State.fr_setFr (s : State) (f g : FReg) (v : Word) :
    (s.setFr f v).fr g = if g = f then v else s.fr g := by
  simp [State.fr, State.setFr, State.fb_setFb]

/-- Writing the front bank leaves the back bank (R69). -/
@[simp] theorem State.xf_setFr (s : State) (f g : FReg) (v : Word) : (s.setFr f v).xf g = s.xf g := by
  simp [State.xf, State.setFr, State.fb_setFb]

theorem evenReg_ne_oddReg (f : FReg) : evenReg f ≠ oddReg f := by revert f; decide

/-- A pair reads back as it was written (R70). -/
theorem State.dr_setDr (s : State) (f : FReg) (v : BitVec 64) : (s.setDr f v).dr f = v := by
  have h : (s.setDr f v).dr f = v.extractLsb' 32 32 ++ v.extractLsb' 0 32 := by
    unfold State.dr State.setDr
    rw [State.fr_setFr, if_neg (evenReg_ne_oddReg f), State.fr_setFr, if_pos rfl, State.fr_setFr,
      if_pos rfl]
  rw [h]
  ext i hi
  simp only [BitVec.getElem_append, BitVec.getElem_extractLsb']
  split
  all_goals (rw [← BitVec.getLsbD_eq_getElem]; congr 1; omega)

end Sys2Proof.Machine
end

