-- ==== Sys2Proof/Laws/Float.lean ====
section
/-! SUPPORT. What the shared FPU operations leave as it was, and what they answer under each precision. -/

namespace Sys2Proof.Machine

theorem fpArith_double {s : State} {o1 o2 : FpOp} {g : FpFormat → FpVal → FpVal → FpVal} {n m : FReg}
    (h : s.double = true) :
    fpArith s o1 o2 g n m = s.setDr n (fpBinary s fmtDouble o2 (g fmtDouble) (s.dr n) (s.dr m)) := by
  unfold fpArith; rw [if_pos h]

theorem fpArith_single {s : State} {o1 o2 : FpOp} {g : FpFormat → FpVal → FpVal → FpVal} {n m : FReg}
    (h : s.double = false) :
    fpArith s o1 o2 g n m
      = s.setFr n ((fpBinary s fmtSingle o1 (g fmtSingle) ((s.fr n).setWidth 64)
          ((s.fr m).setWidth 64)).setWidth 32) := by
  unfold fpArith; rw [if_neg (by simp [h])]

variable (s : State) (o1 o2 : FpOp) (g : FpFormat → FpVal → FpVal → FpVal) (n m : FReg)

@[simp] theorem fpArith_bankA : (fpArith s o1 o2 g n m).bankA = s.bankA := by
  unfold fpArith; split <;> rfl
@[simp] theorem fpArith_bankB : (fpArith s o1 o2 g n m).bankB = s.bankB := by
  unfold fpArith; split <;> rfl
@[simp] theorem fpArith_rh : (fpArith s o1 o2 g n m).rh = s.rh := by
  unfold fpArith; split <;> rfl
@[simp] theorem fpArith_pc : (fpArith s o1 o2 g n m).pc = s.pc := by
  unfold fpArith; split <;> rfl
@[simp] theorem fpArith_sr : (fpArith s o1 o2 g n m).sr = s.sr := by
  unfold fpArith; split <;> rfl
@[simp] theorem fpArith_gbr : (fpArith s o1 o2 g n m).gbr = s.gbr := by
  unfold fpArith; split <;> rfl
@[simp] theorem fpArith_vbr : (fpArith s o1 o2 g n m).vbr = s.vbr := by
  unfold fpArith; split <;> rfl
@[simp] theorem fpArith_ssr : (fpArith s o1 o2 g n m).ssr = s.ssr := by
  unfold fpArith; split <;> rfl
@[simp] theorem fpArith_spc : (fpArith s o1 o2 g n m).spc = s.spc := by
  unfold fpArith; split <;> rfl
@[simp] theorem fpArith_sgr : (fpArith s o1 o2 g n m).sgr = s.sgr := by
  unfold fpArith; split <;> rfl
@[simp] theorem fpArith_dbr : (fpArith s o1 o2 g n m).dbr = s.dbr := by
  unfold fpArith; split <;> rfl
@[simp] theorem fpArith_mach : (fpArith s o1 o2 g n m).mach = s.mach := by
  unfold fpArith; split <;> rfl
@[simp] theorem fpArith_macl : (fpArith s o1 o2 g n m).macl = s.macl := by
  unfold fpArith; split <;> rfl
@[simp] theorem fpArith_pr : (fpArith s o1 o2 g n m).pr = s.pr := by
  unfold fpArith; split <;> rfl
@[simp] theorem fpArith_fpscr : (fpArith s o1 o2 g n m).fpscr = s.fpscr := by
  unfold fpArith; split <;> rfl
@[simp] theorem fpArith_fpul : (fpArith s o1 o2 g n m).fpul = s.fpul := by
  unfold fpArith; split <;> rfl
@[simp] theorem fpArith_mem : (fpArith s o1 o2 g n m).mem = s.mem := by
  unfold fpArith; split <;> rfl
@[simp] theorem fpArith_slot : (fpArith s o1 o2 g n m).slot = s.slot := by
  unfold fpArith; split <;> rfl
@[simp] theorem fpArith_irqs : (fpArith s o1 o2 g n m).irqs = s.irqs := by
  unfold fpArith; split <;> rfl
@[simp] theorem fpArith_asleep : (fpArith s o1 o2 g n m).asleep = s.asleep := by
  unfold fpArith; split <;> rfl
@[simp] theorem fpArith_stored : (fpArith s o1 o2 g n m).stored = s.stored := by
  unfold fpArith; split <;> rfl
@[simp] theorem fpArith_special : (fpArith s o1 o2 g n m).special = s.special := by
  unfold fpArith; split <;> rfl
@[simp] theorem fpArith_freeCtr : (fpArith s o1 o2 g n m).freeCtr = s.freeCtr := by
  unfold fpArith; split <;> rfl
@[simp] theorem fpArith_cfg : (fpArith s o1 o2 g n m).cfg = s.cfg := by
  unfold fpArith; split <;> rfl
@[simp] theorem fpArith_r (j : Reg) : (fpArith s o1 o2 g n m).r j = s.r j := by
  unfold fpArith; split <;> rfl
@[simp] theorem fpArith_other (k : BankReg) : (fpArith s o1 o2 g n m).other k = s.other k := by
  unfold fpArith; split <;> rfl

end Sys2Proof.Machine
end

