-- ==== Sys2Proof/Laws/Memory.lean ====
section
/-! SUPPORT. Memory: reading after writing, and that every operation keeps the canonical form. -/

namespace Sys2Proof.Machine

/-! ### The canonical form -/

theorem memWfFrom_cons {lo k : Nat} {v : Byte} {rest : List Host.Cell} :
    memWfFrom lo ((k, v) :: rest) = true ↔
      lo ≤ k ∧ k < 2 ^ 32 ∧ v ≠ Config.blankByte ∧ memWfFrom (k + 1) rest = true := by
  simp [memWfFrom, and_assoc]

theorem memWfFrom_mono {lo lo' : Nat} {m : List Host.Cell} (h : lo' ≤ lo)
    (w : memWfFrom lo m = true) : memWfFrom lo' m = true := by
  cases m with
  | nil => rfl
  | cons c rest =>
    obtain ⟨k, v⟩ := c
    rw [memWfFrom_cons] at w ⊢
    exact ⟨by omega, w.2⟩

/-- A location below all listed ones reads as blank. -/
theorem memGet_of_wfFrom {lo a : Nat} {m : List Host.Cell} (w : memWfFrom lo m = true) (h : a < lo) :
    memGet m a = Config.blankByte := by
  induction m generalizing lo with
  | nil => rfl
  | cons c rest ih =>
    obtain ⟨k, v⟩ := c
    rw [memWfFrom_cons] at w
    rw [memGet, if_neg (by omega)]
    exact ih w.2.2.2 (by omega)

theorem memPut_wfFrom {lo a : Nat} {m : List Host.Cell} (v : Byte) (w : memWfFrom lo m = true)
    (h : lo ≤ a) (ha : a < 2 ^ 32) : memWfFrom lo (memPut m a v) = true := by
  induction m generalizing lo with
  | nil =>
    unfold memPut
    split
    · rfl
    · rw [memWfFrom_cons]; exact ⟨h, ha, ‹_›, rfl⟩
  | cons c rest ih =>
    obtain ⟨k, x⟩ := c
    have w' := memWfFrom_cons.mp w
    unfold memPut
    split
    · split
      · exact w
      · rw [memWfFrom_cons, memWfFrom_cons]
        exact ⟨h, ha, ‹_›, by omega, w'.2⟩
    · split
      · split
        · exact memWfFrom_mono (by omega) w'.2.2.2
        · rw [memWfFrom_cons]; subst a; exact ⟨w'.1, w'.2.1, ‹_›, w'.2.2.2⟩
      · rw [memWfFrom_cons]
        exact ⟨w'.1, w'.2.1, w'.2.2.1, ih w'.2.2.2 (by omega)⟩

/-- A store keeps the canonical form. -/
theorem memPut_wf {a : Nat} {m : List Host.Cell} (v : Byte) (w : Memory.wf m = true) (ha : a < 2 ^ 32) :
    Memory.wf (memPut m a v) = true :=
  memPut_wfFrom v w (Nat.zero_le a) ha

/-- Storing several bytes keeps the canonical form. -/
theorem memPutAll_wf {a : Nat} {m : List Host.Cell} (vs : List Byte) (w : Memory.wf m = true)
    (ha : a + vs.length ≤ 2 ^ 32) : Memory.wf (memPutAll m a vs) = true := by
  induction vs generalizing m a with
  | nil => exact w
  | cons v rest ih =>
    simp only [List.length_cons] at ha
    exact ih (memPut_wf v w (by omega)) (by omega)

/-! ### Reading after writing -/

/-- A byte reads as what was stored to it last, every other byte as before. -/
theorem memGet_memPut {a b : Nat} {m : List Host.Cell} {v : Byte} (w : Memory.wf m = true) :
    memGet (memPut m a v) b = if b = a then v else memGet m b := by
  have gen : ∀ (lo : Nat) (m : List Host.Cell), memWfFrom lo m = true →
      memGet (memPut m a v) b = if b = a then v else memGet m b := by
    intro lo m
    induction m generalizing lo with
    | nil =>
      intro _
      by_cases hv : v = Config.blankByte <;> by_cases hb : a = b <;>
        simp [memPut, memGet, hv, hb, eq_comm]
    | cons c rest ih =>
      obtain ⟨k, x⟩ := c
      intro w
      have w' := memWfFrom_cons.mp w
      unfold memPut
      split
      · rename_i hak
        split
        · rename_i hv
          by_cases hb : b = a
          · subst hb; rw [if_pos rfl, hv]
            exact memGet_of_wfFrom (memWfFrom_cons.mpr ⟨Nat.le_refl k, w'.2⟩) hak
          · rw [if_neg hb]
        · simp only [memGet, eq_comm (a := a)]
      · split
        · rename_i hak
          subst hak
          split
          · rename_i hv
            by_cases hb : b = a
            · subst hb; rw [if_pos rfl, hv]
              exact memGet_of_wfFrom w'.2.2.2 (Nat.lt_succ_self _)
            · rw [if_neg hb, memGet, if_neg (fun h => hb h.symm)]
          · simp only [memGet, eq_comm (a := a)]
            split <;> simp_all
        · rename_i h1 h2
          simp only [memGet]
          rw [ih _ w'.2.2.2]
          by_cases hk : k = b
          · subst hk; rw [if_pos rfl, if_neg (fun h => h2 h.symm), if_pos rfl]
          · rw [if_neg hk, if_neg hk]
  exact gen 0 m w

theorem memGet_memPut_self {a : Nat} {m : List Host.Cell} {v : Byte} (w : Memory.wf m = true) :
    memGet (memPut m a v) a = v := by rw [memGet_memPut w, if_pos rfl]

theorem memGet_memPut_ne {a b : Nat} {m : List Host.Cell} {v : Byte} (h : b ≠ a) (w : Memory.wf m = true) :
    memGet (memPut m a v) b = memGet m b := by rw [memGet_memPut w, if_neg h]

/-- Bytes outside the stored ones read as before. -/
theorem memGet_memPutAll_out {a b : Nat} {m : List Host.Cell} (vs : List Byte) (w : Memory.wf m = true)
    (ha : a + vs.length ≤ 2 ^ 32) (h : b < a ∨ a + vs.length ≤ b) :
    memGet (memPutAll m a vs) b = memGet m b := by
  induction vs generalizing m a with
  | nil => rfl
  | cons v rest ih =>
    simp only [List.length_cons] at ha h
    rw [memPutAll, ih (memPut_wf v w (by omega)) (by omega) (by omega), memGet_memPut_ne (by omega) w]

/-- The i-th stored byte reads back. -/
theorem memGet_memPutAll_in {a i : Nat} {m : List Host.Cell} (vs : List Byte) (w : Memory.wf m = true)
    (ha : a + vs.length ≤ 2 ^ 32) (h : i < vs.length) :
    memGet (memPutAll m a vs) (a + i) = vs[i] := by
  induction vs generalizing m a i with
  | nil => simp at h
  | cons v rest ih =>
    simp only [List.length_cons] at ha h
    rw [memPutAll]
    cases i with
    | zero =>
      rw [memGet_memPutAll_out rest (memPut_wf v w (by omega)) (by omega) (by omega)]
      simpa using memGet_memPut_self w
    | succ j =>
      have := ih (a := a + 1) (i := j) (memPut_wf v w (a := a) (by omega)) (by omega) (by omega)
      rw [show a + (j + 1) = a + 1 + j by omega, this]; rfl

/-- How many bytes a value of a width has. -/
theorem bytesOfValue_length (e : Endian) (sz : Size) (v : Word) :
    (bytesOfValue e sz v).length = sz.bytes := by
  cases sz <;> cases e <;> rfl

/-- Two memories that agree on the bytes of an access load the same value. -/
theorem loadAt_congr {e : Endian} {sz : Size} {m m' : List Host.Cell} {loc : Nat}
    (h : ∀ i, i < sz.bytes → memGet m' (loc + i) = memGet m (loc + i)) :
    loadAt e sz m' loc = loadAt e sz m loc := by
  cases sz with
  | b => simpa [loadAt] using congrArg _ (h 0 (by decide))
  | w =>
    have h0 := h 0 (by decide); have h1 := h 1 (by decide)
    simp only [Nat.add_zero] at h0
    simp only [loadAt, h0, h1]
  | l =>
    have h0 := h 0 (by decide); have h1 := h 1 (by decide)
    have h2 := h 2 (by decide); have h3 := h 3 (by decide)
    simp only [Nat.add_zero] at h0
    simp only [loadAt, h0, h1, h2, h3]

/-- A long is its four bytes. -/
theorem word_eq_bytes (v : Word) :
    v.extractLsb' 24 8 ++ v.extractLsb' 16 8 ++ v.extractLsb' 8 8 ++ v.extractLsb' 0 8 = v := by
  ext i hi
  simp only [BitVec.getElem_append, BitVec.getElem_extractLsb']
  repeat' split
  all_goals (rw [← BitVec.getLsbD_eq_getElem]; congr 1; omega)

/-- A word is its two bytes. -/
theorem half_eq_bytes (v : Half) : v.extractLsb' 8 8 ++ v.extractLsb' 0 8 = v := by
  ext i hi
  simp only [BitVec.getElem_append, BitVec.getElem_extractLsb']
  split
  all_goals (rw [← BitVec.getLsbD_eq_getElem]; congr 1; omega)

/-- What a store of a width keeps of a value. -/
theorem loadAt_memPutAll {e : Endian} {sz : Size} {m : List Host.Cell} {loc : Nat} {v : Word}
    (w : Memory.wf m = true) (h : loc + sz.bytes ≤ 2 ^ 32) :
    loadAt e sz (memPutAll m loc (bytesOfValue e sz v)) loc
      = match sz with
        | .b => (v.setWidth 8).setWidth 32
        | .w => (v.setWidth 16).setWidth 32
        | .l => v := by
  have get : ∀ i (hi : i < (bytesOfValue e sz v).length),
      memGet (memPutAll m loc (bytesOfValue e sz v)) (loc + i) = (bytesOfValue e sz v)[i] := fun i hi =>
    memGet_memPutAll_in _ w (by rw [bytesOfValue_length]; exact h) hi
  have e16 : v.extractLsb' 0 16 = v.setWidth 16 := by ext i hi; simp
  have e8 : v.extractLsb' 0 8 = v.setWidth 8 := by ext i hi; simp
  cases sz with
  | b =>
    have h0 := get 0 (by simp [bytesOfValue])
    simp only [Nat.add_zero] at h0
    simp only [loadAt, h0]
    simp only [bytesOfValue, e8, List.getElem_cons_zero]
  | w =>
    have h0 := get 0 (by cases e <;> simp [bytesOfValue, bytesOfWord])
    have h1 := get 1 (by cases e <;> simp [bytesOfValue, bytesOfWord])
    simp only [Nat.add_zero] at h0
    cases e <;>
      simp only [loadAt, wordOfBytes, h0, h1] <;>
      simp only [bytesOfValue, bytesOfWord, List.getElem_cons_zero,
        List.getElem_cons_succ, half_eq_bytes, e16]
  | l =>
    have h0 := get 0 (by cases e <;> simp [bytesOfValue])
    have h1 := get 1 (by cases e <;> simp [bytesOfValue])
    have h2 := get 2 (by cases e <;> simp [bytesOfValue])
    have h3 := get 3 (by cases e <;> simp [bytesOfValue])
    simp only [Nat.add_zero] at h0
    cases e <;>
      simp only [loadAt, h0, h1, h2, h3] <;>
      simp only [bytesOfValue, List.getElem_cons_zero,
        List.getElem_cons_succ, word_eq_bytes]

/-! ### The list of stored locations -/

theorem locsFrom_cons {lo k : Nat} {rest : List Nat} :
    locsFrom lo (k :: rest) = true ↔ lo ≤ k ∧ k < 2 ^ 32 ∧ locsFrom (k + 1) rest = true := by
  simp [locsFrom, and_assoc]

theorem locsFrom_mono {lo lo' : Nat} {l : List Nat} (h : lo' ≤ lo) (w : locsFrom lo l = true) :
    locsFrom lo' l = true := by
  cases l with
  | nil => rfl
  | cons k rest => rw [locsFrom_cons] at w ⊢; exact ⟨by omega, w.2⟩

theorem insertLoc_from {lo a : Nat} {l : List Nat} (w : locsFrom lo l = true) (h : lo ≤ a)
    (ha : a < 2 ^ 32) : locsFrom lo (insertLoc l a) = true := by
  induction l generalizing lo with
  | nil => rw [insertLoc, locsFrom_cons]; exact ⟨h, ha, rfl⟩
  | cons k rest ih =>
    have w' := locsFrom_cons.mp w
    unfold insertLoc
    split
    · rw [locsFrom_cons, locsFrom_cons]; exact ⟨h, ha, by omega, w'.2⟩
    · split
      · exact w
      · rw [locsFrom_cons]; exact ⟨w'.1, w'.2.1, ih w'.2.2 (by omega)⟩

theorem insertLocs_from {a n : Nat} {l : List Nat} (w : locsFrom 0 l = true) (ha : a + n ≤ 2 ^ 32) :
    locsFrom 0 (insertLocs l a n) = true := by
  induction n generalizing l a with
  | zero => exact w
  | succ n ih => exact ih (insertLoc_from w (Nat.zero_le a) (by omega)) (by omega)

theorem mem_insertLoc {l : List Nat} {a x : Nat} : x ∈ insertLoc l a ↔ x = a ∨ x ∈ l := by
  induction l with
  | nil => simp [insertLoc]
  | cons k rest ih =>
    unfold insertLoc
    split
    · simp
    · split
      · subst a; simp
      · simp only [List.mem_cons, ih]; tauto

/-- The stored locations after a store. -/
theorem mem_insertLocs {l : List Nat} {a n x : Nat} :
    x ∈ insertLocs l a n ↔ (a ≤ x ∧ x < a + n) ∨ x ∈ l := by
  induction n generalizing l a with
  | zero => simp [insertLocs]
  | succ n ih =>
    rw [insertLocs, ih, mem_insertLoc]
    constructor
    · rintro (h | rfl | h)
      · exact .inl (by omega)
      · exact .inl (by omega)
      · exact .inr h
    · rintro (h | h)
      · by_cases hx : x = a
        · exact .inr (.inl hx)
        · exact .inl (by omega)
      · exact .inr (.inr h)

end Sys2Proof.Machine
end

