-- ==== Sys2Proof/Laws/Ops.lean ====
section
/-! SUPPORT. One lemma for each shared operation that says once what it can do; the proofs about
instructions cite these and unfold no operation. -/

namespace Sys2Proof.Machine

/-! ### Events -/

theorem raise_of_takes {e : Event} {s : State} (h : s.TakesEvents) : raise e s = .next (trapEntry e s) := by
  unfold raise
  rw [h.2, h.1]
  rfl

/-- Raising an event enters the trap or is refused; it never answers anything else. -/
theorem raise_next {e : Event} {s t : State} (h : raise e s = .next t) :
    t = trapEntry e s ∧ s.TakesEvents := by
  unfold raise at h
  split at h
  · cases h
  · split at h
    · cases h
    · rename_i h1 h2
      cases h
      exact ⟨rfl, by simpa using h2, by simpa using h1⟩

theorem inRteSlot_of_none {s : State} (h : s.slot = none) : s.inRteSlot = false := by
  unfold State.inRteSlot; rw [h]

/-- A stop ends in a trap entry or not in a next state. -/
theorem stopWith_next {s t : State} {x : Stop} (h : stopWith s x = .next t) :
    ∃ e, t = trapEntry e s ∧ s.TakesEvents := by
  cases x with
  | event e => exact ⟨e, raise_next h⟩
  | refuse r => cases h

theorem orStop_ok {α : Type} (s : State) (a : α) (k : α → Out) : orStop s (.ok a) k = k a := rfl

theorem orStop_error {α : Type} (s : State) (x : Stop) (k : α → Out) :
    orStop s (.error x) k = stopWith s x := rfl

/-- What an instruction that goes on with an access can answer. -/
theorem orStop_next {α : Type} {s t : State} {x : Except Stop α} {k : α → Out}
    (h : orStop s x k = .next t) :
    (∃ a, x = .ok a ∧ k a = .next t) ∨ (∃ e, t = trapEntry e s ∧ s.TakesEvents) := by
  cases x with
  | ok a => exact .inl ⟨a, rfl, h⟩
  | error e => exact .inr (stopWith_next h)

/-! ### Checks -/

theorem illegal_of_none {s : State} (h : s.slot = none) : s.illegal = .illegalInstruction := by
  simp [State.illegal, h]

theorem illegal_of_some {s : State} {t : Slot} (h : s.slot = some t) : s.illegal = .slotIllegal := by
  simp [State.illegal, h]

theorem outsideSlot_of_none {s : State} (k : Out) (h : s.slot = none) : outsideSlot s k = k := by
  simp [outsideSlot, h]

theorem outsideSlot_of_some {s : State} {t : Slot} (k : Out) (h : s.slot = some t) :
    outsideSlot s k = raise .slotIllegal s := by
  simp [outsideSlot, h]

theorem privileged_of_md {s : State} (k : Out) (h : s.md = true) : privileged s k = k := by
  simp [privileged, h]

theorem privileged_of_user {s : State} (k : Out) (h : s.md = false) :
    privileged s k = raise s.illegal s := by
  simp [privileged, h]

theorem fpu_of_on {s : State} (k : Out) (h : s.fd = false) : fpu s k = k := by
  simp [fpu, h]

theorem fpu_of_off {s : State} (k : Out) (h : s.fd = true) : fpu s k = raise s.fpuOff s := by
  simp [fpu, h]

theorem outsideSlot_next {s t : State} {k : Out} (h : outsideSlot s k = .next t) :
    (s.slot = none ∧ k = .next t) ∨ (∃ e, t = trapEntry e s ∧ s.TakesEvents) := by
  unfold outsideSlot at h
  split at h
  · exact .inr ⟨_, raise_next h⟩
  · rename_i hn; exact .inl ⟨by simpa using hn, h⟩

theorem privileged_next {s t : State} {k : Out} (h : privileged s k = .next t) :
    (s.md = true ∧ k = .next t) ∨ (∃ e, t = trapEntry e s ∧ s.TakesEvents) := by
  unfold privileged at h
  split at h
  · exact .inl ⟨‹_›, h⟩
  · exact .inr ⟨_, raise_next h⟩

theorem fpu_next {s t : State} {k : Out} (h : fpu s k = .next t) :
    (s.fd = false ∧ k = .next t) ∨ (∃ e, t = trapEntry e s ∧ s.TakesEvents) := by
  unfold fpu at h
  split at h
  · exact .inr ⟨_, raise_next h⟩
  · rename_i hn; exact .inl ⟨by simpa using hn, h⟩

theorem evenField_next {s t : State} {f : FReg} {k : Out} (h : evenField s f k = .next t) :
    (s.double && oddField f) = false ∧ k = .next t := by
  unfold evenField at h
  split at h
  · cases h
  · rename_i hn; exact ⟨by simpa using hn, h⟩

theorem singleOnly_next {s t : State} {k : Out} (h : singleOnly s k = .next t) :
    s.double = false ∧ k = .next t := by
  unfold singleOnly at h
  split at h
  · cases h
  · rename_i hn; exact ⟨by simpa using hn, h⟩

theorem doubleOnly_next {s t : State} {f : FReg} {k : Out} (h : doubleOnly s f k = .next t) :
    s.double = true ∧ oddField f = false ∧ k = .next t := by
  unfold doubleOnly at h
  split at h
  · cases h
  · split at h
    · cases h
    · exact ⟨by simpa using ‹¬ (!_) = true›, by simpa using ‹¬ oddField f = true›, h⟩

theorem rounding_of_runs {s : State} (k : Out) (h : s.RoundingRuns) : rounding s k = k := by
  unfold rounding
  rw [if_neg]
  intro hc
  obtain ⟨h1, h2⟩ := Bool.and_eq_true_iff.mp hc
  rcases h (by simpa using h1) with h0 | h0 <;> rw [h0] at h2 <;> exact absurd h2 (by decide)

theorem rounding_of_reserved {s : State} (k : Out) (h : s.cfg.fpnum = .ieee) (hr : s.rm = 2 ∨ s.rm = 3) :
    rounding s k = .refused .roundingMode := by
  unfold rounding
  rcases hr with h0 | h0 <;> rw [h0, h] <;> rfl

theorem rounding_next {s t : State} {k : Out} (h : rounding s k = .next t) : s.RoundingRuns ∧ k = .next t := by
  unfold rounding at h
  split at h
  · cases h
  · rename_i hn
    refine ⟨fun hi => ?_, h⟩
    have hm : s.rm.msb = false := by
      cases hb : s.rm.msb
      · rfl
      · exact absurd (by rw [hi, hb]; rfl) hn
    revert hm
    generalize s.rm = r
    revert r
    decide

theorem done_next {s t : State} (h : done s = .next t) : t = s.advance := by
  unfold done at h; cases h; rfl

/-! ### Accesses -/

/-- The place `n` bytes above. -/
def Place.plus (p : Place) (n : Nat) : Place :=
  match p with
  | .mem loc => .mem (loc + n)
  | .special ea => .special (ea + BitVec.ofNat 32 n)

/-- Where an address of region 7 goes, if anywhere: to the handler. -/
theorem specialPlace_ok {h : Special} {ea : Word} {p : Place} (e : specialPlace h ea = .ok p) :
    h = .present ∧ p = .special ea := by
  cases h with
  | absent => cases e
  | present => cases e; exact ⟨rfl, rfl⟩

/-- A place in region 7 is one that there is a handler for, and its address is the effective address. -/
theorem locate_special {s : State} {k : Access} {md : Bool} {ea a : Word}
    (h : s.locate k md ea = .ok (.special a)) : s.cfg.special = .present ∧ a = ea := by
  unfold State.locate at h
  split at h
  · cases h
  · simp only at h
    split at h
    · cases h
    · split at h
      · obtain ⟨h1, h2⟩ := specialPlace_ok h
        cases h2
        exact ⟨h1, rfl⟩
      · split at h
        · cases h
        · split at h
          · cases h
          · unfold translated at h
            split at h <;> cases h

/-- A place lies in the address space, and keeps the offset in a page of its effective address. -/
theorem locate_bound {s : State} {k : Access} {md : Bool} {ea : Word} {p : Place}
    (h : s.locate k md ea = .ok p) : p.loc < 2 ^ 32 ∧ p.loc % 4096 = ea.toNat % 4096 := by
  have hea := ea.isLt
  have h29 : (ea.extractLsb' 0 29).toNat = ea.toNat % 2 ^ 29 := by simp [BitVec.extractLsb'_toNat]
  unfold State.locate at h
  split at h
  · cases h; exact ⟨hea, rfl⟩
  · simp only at h
    split at h
    · cases h
    · split at h
      · obtain ⟨-, rfl⟩ := specialPlace_ok h
        exact ⟨hea, rfl⟩
      · split at h
        · cases h; simp only [Place.loc, h29]; omega
        · split at h
          · cases h; simp only [Place.loc, h29]; omega
          · unfold translated at h
            split at h
            · rename_i f _
              cases h
              have hf := f.isLt
              have h12 : (ea.extractLsb' 0 12).toNat = ea.toNat % 2 ^ 12 := by
                simp [BitVec.extractLsb'_toNat]
              simp only [Place.loc]
              rw [BitVec.toNat_append, h12, ← Nat.shiftLeft_add_eq_or_of_lt (Nat.mod_lt _ (by decide)), Nat.shiftLeft_eq]
              omega
            · cases h
            · cases h

/-- An access that passes its checks is aligned, and its bytes lie in the address space. -/
theorem check_ok {s : State} {k : Access} {sz : Size} {ea : Word} {p : Place}
    (h : s.check k sz ea = .ok p) :
    ea.toNat % sz.bytes = 0 ∧ s.locate k s.md ea = .ok p ∧ p.loc + sz.bytes ≤ 2 ^ 32 := by
  unfold State.check at h
  split at h
  · rename_i ha
    obtain ⟨hb, hm⟩ := locate_bound h
    refine ⟨ha, h, ?_⟩
    cases sz <;> simp only [Size.bytes] at ha ⊢ <;> omega
  · cases h

/-- A misaligned data access is an address error of its kind (R92). -/
theorem check_misaligned {s : State} {k : Access} {sz : Size} {ea : Word}
    (h : ea.toNat % sz.bytes ≠ 0) : s.check k sz ea = .error (.event (.addressError k ea)) := by
  unfold State.check; rw [if_neg h]

/-- The checks of an access depend on SR.MD and the parameters only. -/
theorem check_congr {s t : State} (hc : t.cfg = s.cfg) (hm : t.md = s.md) (k : Access) (sz : Size) (ea : Word) :
    t.check k sz ea = s.check k sz ea := by
  unfold State.check State.locate; rw [hc, hm]

@[simp] theorem check_noteRead (s : State) (z : Size) (p : Place) (k : Access) (sz : Size) (ea : Word) :
    (s.noteRead z p).check k sz ea = s.check k sz ea := by cases p <;> rfl

@[simp] theorem check_setR (s : State) (i : Reg) (v : Word) (k : Access) (sz : Size) (ea : Word) :
    (s.setR i v).check k sz ea = s.check k sz ea := rfl

theorem read_of_check {s : State} {sz : Size} {ea : Word} {p : Place} (h : s.check .read sz ea = .ok p) :
    s.read sz ea = .ok (s.loadFrom s.cfg.endianLocal sz p) := by
  unfold State.read State.readIn; rw [h]

theorem readPc_of_check {s : State} {sz : Size} {ea : Word} {p : Place}
    (h : s.check .read sz ea = .ok p) : s.readPc sz ea = .ok (s.loadFrom s.cfg.endian sz p) := by
  unfold State.readPc State.readIn; rw [h]

theorem write_of_check {s : State} {sz : Size} {ea v : Word} {p : Place}
    (h : s.check .write sz ea = .ok p) : s.write sz ea v = .ok (s.storeTo sz v p) := by
  unfold State.write; rw [h]

/-- What a read that answers did: it read the place that its checks gave, and only the handler of region 7 has
seen it. -/
theorem readIn_ok {s : State} {e : Endian} {sz : Size} {ea : Word} {r : Loaded Word}
    (h : s.readIn e sz ea = .ok r) :
    ∃ p, s.check .read sz ea = .ok p ∧ r = { value := s.valueAt e sz p, state := s.noteRead sz p } := by
  unfold State.readIn at h
  split at h
  · cases h; exact ⟨_, ‹_›, rfl⟩
  · cases h

theorem read_ok {s : State} {sz : Size} {ea : Word} {r : Loaded Word} (h : s.read sz ea = .ok r) :
    ∃ p, s.check .read sz ea = .ok p
      ∧ r = { value := s.valueAt s.cfg.endianLocal sz p, state := s.noteRead sz p } := readIn_ok h

theorem readPc_ok {s : State} {sz : Size} {ea : Word} {r : Loaded Word} (h : s.readPc sz ea = .ok r) :
    ∃ p, s.check .read sz ea = .ok p
      ∧ r = { value := s.valueAt s.cfg.endian sz p, state := s.noteRead sz p } := readIn_ok h

/-- A read that stops, stops as its checks do. -/
theorem read_error {s : State} {sz : Size} {ea : Word} {x : Stop} (h : s.check .read sz ea = .error x) :
    s.read sz ea = .error x := by
  unfold State.read State.readIn; rw [h]

/-- What a write that answers a state did. -/
theorem write_ok {s t : State} {sz : Size} {ea v : Word} (h : s.write sz ea v = .ok t) :
    ∃ p, s.check .write sz ea = .ok p ∧ t = s.storeTo sz v p := by
  unfold State.write at h
  split at h
  · cases h; exact ⟨_, ‹_›, rfl⟩
  · cases h

/-- The two halves of a pair access. -/
theorem checkPair_ok {s : State} {k : Access} {ea : Word} {p : Place × Place} (h : s.checkPair k ea = .ok p) :
    ea.toNat % 8 = 0 ∧ s.check k .l ea = .ok p.1 ∧ s.check k .l (ea + 4) = .ok p.2 := by
  unfold State.checkPair at h
  split at h
  · split at h
    · cases h
    · split at h
      · cases h
      · cases h; exact ⟨‹_›, ‹_›, ‹_›⟩
  · cases h

/-- What a pair store that answers a state did. -/
theorem writePair_ok {s t : State} {ea : Word} {v : Word × Word} (h : s.writePair ea v = .ok t) :
    ∃ hi lo, s.checkPair .write ea = .ok (hi, lo) ∧ t = (s.storeTo .l v.1 hi).storeTo .l v.2 lo := by
  unfold State.writePair at h
  split at h
  · cases h; exact ⟨_, _, ‹_›, rfl⟩
  · cases h

/-- What the read of a read-modify-write that answers a value did. -/
theorem readToModify_ok {s : State} {sz : Size} {ea : Word} {r : Loaded Word} (h : s.readToModify sz ea = .ok r) :
    (∃ p, s.check .write sz ea = .ok p) ∧ s.read sz ea = .ok r := by
  unfold State.readToModify at h
  split at h
  · exact ⟨⟨_, ‹_›⟩, h⟩
  · cases h

/-- Two effective addresses of one 8-byte block lie at places 4 apart. -/
theorem locate_adjacent {s : State} {k : Access} {md : Bool} {ea : Word} {hi lo : Place}
    (ha : ea.toNat % 8 = 0) (h : s.locate k md ea = .ok hi) (h' : s.locate k md (ea + 4) = .ok lo) :
    lo = hi.plus 4 := by
  have hlt := ea.isLt
  have e4 : (ea + 4).toNat = ea.toNat + 4 := by
    rw [BitVec.toNat_add, show (4 : Word).toNat = 4 from rfl]; omega
  have e29 : (ea + 4).extractLsb' 29 3 = ea.extractLsb' 29 3 := by
    apply BitVec.eq_of_toNat_eq
    rw [BitVec.extractLsb'_toNat, BitVec.extractLsb'_toNat, e4, Nat.shiftRight_eq_div_pow,
      Nat.shiftRight_eq_div_pow]
    omega
  have e12 : (ea + 4).extractLsb' 12 20 = ea.extractLsb' 12 20 := by
    apply BitVec.eq_of_toNat_eq
    rw [BitVec.extractLsb'_toNat, BitVec.extractLsb'_toNat, e4, Nat.shiftRight_eq_div_pow,
      Nat.shiftRight_eq_div_pow]
    omega
  have low : ((ea + 4).extractLsb' 0 29).toNat = (ea.extractLsb' 0 29).toNat + 4 := by
    simp only [BitVec.extractLsb'_toNat, Nat.shiftRight_zero, e4]; omega
  have low12 : ((ea + 4).extractLsb' 0 12).toNat = (ea.extractLsb' 0 12).toNat + 4 := by
    simp only [BitVec.extractLsb'_toNat, Nat.shiftRight_zero, e4]; omega
  unfold State.locate at h h'
  cases hm : s.cfg.addrMode with
  | sh2 =>
    simp only [hm] at h h'
    cases h; cases h'; exact congrArg Place.mem e4
  | sh4 =>
    simp only [hm, e29, e12] at h h'
    split at h
    · cases h
    · rename_i h1
      rw [if_neg h1] at h'
      split at h
      · rename_i h2
        rw [if_pos h2] at h'
        obtain ⟨-, rfl⟩ := specialPlace_ok h
        obtain ⟨-, rfl⟩ := specialPlace_ok h'
        rfl
      · rename_i h2
        rw [if_neg h2] at h'
        split at h
        · rename_i h3
          rw [if_pos h3] at h'
          cases h; cases h'; exact congrArg Place.mem low
        · rename_i h3
          rw [if_neg h3] at h'
          cases hu : s.cfg.mmu with
          | absent =>
            simp only [hu] at h h'
            cases h; cases h'; exact congrArg Place.mem low
          | present =>
            simp only [hu] at h h'
            cases hf : Config.translate (ea.extractLsb' 12 20) k s.md with
            | frame f =>
              simp only [hf, translated] at h h'
              cases h; cases h'
              have b1 : (ea.extractLsb' 0 12).toNat < 2 ^ 12 := BitVec.isLt _
              have b2 : ((ea + 4).extractLsb' 0 12).toNat < 2 ^ 12 := BitVec.isLt _
              simp only [Place.plus]
              rw [BitVec.toNat_append, BitVec.toNat_append, ← Nat.shiftLeft_add_eq_or_of_lt b1,
                ← Nat.shiftLeft_add_eq_or_of_lt b2, low12]
              congr 1
            | miss => simp only [hf, translated] at h; cases h
            | fault => simp only [hf, translated] at h; cases h

/-- The two halves of a pair access are adjacent and lie in the address space. -/
theorem checkPair_adjacent {s : State} {k : Access} {ea : Word} {hi lo : Place}
    (h : s.checkPair k ea = .ok (hi, lo)) : lo = hi.plus 4 ∧ lo.loc = hi.loc + 4 ∧ hi.loc + 8 ≤ 2 ^ 32 := by
  obtain ⟨ha, h1, h2⟩ := checkPair_ok h
  have c1 := check_ok h1
  have c2 := check_ok h2
  have hp : lo = hi.plus 4 := locate_adjacent ha c1.2.1 c2.2.1
  have hl : lo.loc = hi.loc + 4 := by
    subst hp
    cases hi with
    | mem loc => rfl
    | special a =>
      obtain ⟨-, rfl⟩ := locate_special c1.2.1
      have hlt := a.isLt
      show (a + 4#32).toNat = a.toNat + 4
      rw [BitVec.toNat_add, show (4#32).toNat = 4 from rfl]; omega
  exact ⟨hp, hl, by have := c2.2.2; simp only [Size.bytes] at this; omega⟩

/-- What a pair load that answers a value did. -/
theorem readPair_ok {s : State} {ea : Word} {r : Loaded (Word × Word)} (h : s.readPair ea = .ok r) :
    ∃ hi lo, s.checkPair .read ea = .ok (hi, lo)
      ∧ r.value = (s.valueAt s.cfg.endianLocal .l hi, (s.noteRead .l hi).valueAt s.cfg.endianLocal .l lo)
      ∧ r.state = (s.noteRead .l hi).noteRead .l lo := by
  unfold State.readPair at h
  split at h
  · cases h; exact ⟨_, _, ‹_›, rfl, rfl⟩
  · cases h

/-! ### The shapes that instructions share -/

theorem reservedEncoding_next {s t : State} (h : reservedEncoding s = .next t) :
    t = trapEntry s.illegal s ∧ s.TakesEvents := raise_next h

theorem delayedBranch_next {s t : State} {a : Word} (h : delayedBranch s a = .next t) :
    t = { s with slot := some { target := a, rteMd := none }, pc := s.pc + 2 } := by
  cases h; rfl

theorem jumpTo_next {s t : State} {a : Word} (h : jumpTo s a = .next t) : t = { s with pc := a } := by
  cases h; rfl

theorem returnFromException_next {s t : State} (h : returnFromException s = .next t) :
    t = { s with
      sr := s.ssr &&& Config.srMask
      slot := some { target := s.spc, rteMd := some s.md }
      pc := s.pc + 2 } := by
  cases h; rfl

theorem loadReg_next {s t : State} {sz : Size} {ext : Word → Word} {ea : Word} {n : Reg}
    (h : loadReg s sz ext ea n = .next t) :
    (∃ r, s.read sz ea = .ok r ∧ t = (r.state.setR n (ext r.value)).advance)
      ∨ (∃ e, t = trapEntry e s ∧ s.TakesEvents) := by
  rcases orStop_next h with ⟨v, hv, h⟩ | h
  · exact .inl ⟨v, hv, done_next h⟩
  · exact .inr h

theorem loadInc_next {s t : State} {sz : Size} {ext : Word → Word} {m n : Reg}
    (h : loadInc s sz ext m n = .next t) :
    (∃ r, s.read sz (s.r m) = .ok r
        ∧ t = ((r.state.setR m (s.r m + BitVec.ofNat 32 sz.bytes)).setR n (ext r.value)).advance)
      ∨ (∃ e, t = trapEntry e s ∧ s.TakesEvents) := by
  rcases orStop_next h with ⟨v, hv, h⟩ | h
  · exact .inl ⟨v, hv, done_next h⟩
  · exact .inr h

theorem storeVal_next {s t : State} {sz : Size} {ea v : Word} (h : storeVal s sz ea v = .next t) :
    (∃ p, s.check .write sz ea = .ok p ∧ t = (s.storeTo sz v p).advance)
      ∨ (∃ e, t = trapEntry e s ∧ s.TakesEvents) := by
  rcases orStop_next h with ⟨u, hu, h⟩ | h
  · obtain ⟨p, hp, rfl⟩ := write_ok hu
    exact .inl ⟨p, hp, done_next h⟩
  · exact .inr h

theorem pushVal_next {s t : State} {sz : Size} {n : Reg} {v : Word} (h : pushVal s sz n v = .next t) :
    (∃ p, s.check .write sz (s.r n - BitVec.ofNat 32 sz.bytes) = .ok p
        ∧ t = ((s.storeTo sz v p).setR n (s.r n - BitVec.ofNat 32 sz.bytes)).advance)
      ∨ (∃ e, t = trapEntry e s ∧ s.TakesEvents) := by
  rcases orStop_next h with ⟨u, hu, h⟩ | h
  · obtain ⟨p, hp, rfl⟩ := write_ok hu
    exact .inl ⟨p, hp, done_next h⟩
  · exact .inr h

theorem popLong_next {s t : State} {m : Reg} {put : State → Word → State} (h : popLong s m put = .next t) :
    (∃ r, s.read .l (s.r m) = .ok r ∧ t = (put (r.state.setR m (s.r m + 4)) r.value).advance)
      ∨ (∃ e, t = trapEntry e s ∧ s.TakesEvents) := by
  rcases orStop_next h with ⟨v, hv, h⟩ | h
  · exact .inl ⟨v, hv, done_next h⟩
  · exact .inr h

/-- A read-modify-write that goes on made its write check before its read, so that its write never stops. -/
theorem modifyByte_next {s t : State} {ea : Word} {f : Byte → Byte} (h : modifyByte s ea f = .next t) :
    (∃ r p, s.read .b ea = .ok r ∧ s.check .write .b ea = .ok p
        ∧ t = (r.state.storeTo .b ((f (r.value.setWidth 8)).setWidth 32) p).advance)
      ∨ (∃ e, t = trapEntry e s ∧ s.TakesEvents) := by
  rcases orStop_next h with ⟨r, hr, h⟩ | h
  · obtain ⟨⟨p, hp⟩, hr⟩ := readToModify_ok hr
    obtain ⟨q, -, rfl⟩ := read_ok hr
    have hw := write_of_check (v := (f ((s.valueAt s.cfg.endianLocal .b q).setWidth 8)).setWidth 32)
      ((check_noteRead s .b q .write .b ea).trans hp)
    simp only [hw, orStop_ok] at h
    exact .inl ⟨_, p, hr, hp, done_next h⟩
  · exact .inr h

/-! ### Stores and the canonical form -/

theorem storeAt_memWf {s : State} {sz : Size} {loc : Nat} {v : Word} (w : Memory.wf s.mem = true)
    (h : loc + sz.bytes ≤ 2 ^ 32) : Memory.wf (s.storeAt sz loc v).mem = true :=
  memPutAll_wf _ w (by rw [bytesOfValue_length]; exact h)

theorem storeAt_storedWf {s : State} {sz : Size} {loc : Nat} {v : Word} (w : locsFrom 0 s.stored = true)
    (h : loc + sz.bytes ≤ 2 ^ 32) : locsFrom 0 (s.storeAt sz loc v).stored = true :=
  insertLocs_from w h

/-- What a store to a place leaves of the canonical forms (R73, R118). -/
theorem storeTo_memWf {s : State} {sz : Size} {p : Place} {v : Word} (w : Memory.wf s.mem = true)
    (h : p.loc + sz.bytes ≤ 2 ^ 32) : Memory.wf (s.storeTo sz v p).mem = true := by
  cases p with
  | mem loc => exact storeAt_memWf w h
  | special ea => exact w

theorem storeTo_storedWf {s : State} {sz : Size} {p : Place} {v : Word} (w : locsFrom 0 s.stored = true)
    (h : p.loc + sz.bytes ≤ 2 ^ 32) : locsFrom 0 (s.storeTo sz v p).stored = true := by
  cases p <;> exact insertLocs_from w h

theorem storeAt_outside {s : State} {sz : Size} {loc a : Nat} {v : Word} (w : Memory.wf s.mem = true)
    (h : loc + sz.bytes ≤ 2 ^ 32) (ha : a < loc ∨ loc + sz.bytes ≤ a) :
    memGet (s.storeAt sz loc v).mem a = memGet s.mem a :=
  memGet_memPutAll_out _ w (by rw [bytesOfValue_length]; exact h) (by rw [bytesOfValue_length]; exact ha)

theorem storeTo_outside {s : State} {sz : Size} {p : Place} {a : Nat} {v : Word} (w : Memory.wf s.mem = true)
    (h : p.loc + sz.bytes ≤ 2 ^ 32) (ha : ∀ loc, p = .mem loc → a < loc ∨ loc + sz.bytes ≤ a) :
    memGet (s.storeTo sz v p).mem a = memGet s.mem a := by
  cases p with
  | mem loc => exact storeAt_outside w h (ha loc rfl)
  | special ea => rfl

end Sys2Proof.Machine
end

