-- ==== Sys2Proof/Laws/Step.lean ====
section
/-! SUPPORT. What one step can answer, said once, what a fetch reads, and what an image leaves in memory. -/

namespace Sys2Proof.Machine

/-! ### The launch of a run -/

/-- A loaded image leaves memory in its canonical form. -/
theorem loadImage_wf (image : List (Word × Byte)) : Memory.wf (loadImage image) = true := by
  induction image with
  | nil => rfl
  | cons c rest ih => exact memPut_wf c.2 ih c.1.isLt

/-- A location reads as the image's first entry for it, and as blank if it has none. -/
theorem memGet_loadImage (image : List (Word × Byte)) (a : Word) :
    memGet (loadImage image) a.toNat = (image.lookup a).getD Config.blankByte := by
  induction image with
  | nil => rfl
  | cons c rest ih =>
    obtain ⟨b, v⟩ := c
    rw [loadImage, memGet_memPut (loadImage_wf rest), ih, List.lookup_cons]
    by_cases h : a = b
    · subst h; simp
    · have hn : a.toNat ≠ b.toNat := fun e => h (BitVec.eq_of_toNat_eq e)
      have hb : (a == b) = false := by simpa using h
      simp [hn, hb]

@[simp] theorem requestsFromReset_tail (later : List (Option (BitVec 4))) :
    (requestsFromReset later).tail = later := by cases later <;> rfl

/-! ### Fetches and steps -/

/-- A fetch that answers a word: the address is even, its place passed the checks, nothing there was stored to
unless fetches are coherent, and the word is the one found at the place. -/
theorem fetch_ok {s : State} {md : Bool} {a : Word} {w : Loaded Half} (h : s.fetch md a = .ok w) :
    a.getLsbD 0 = false ∧ ∃ p, s.locate .fetch md a = .ok p
      ∧ (s.cfg.ifetch = .refuse → p.loc ∉ s.stored ∧ p.loc + 1 ∉ s.stored) ∧ w = s.fetchFrom p := by
  unfold State.fetch at h
  split at h
  · cases h
  · rename_i h0
    refine ⟨by simpa using h0, ?_⟩
    split at h
    · cases h
    · rename_i p hl
      split at h
      · cases h
      · rename_i h1
        cases h
        exact ⟨p, hl, fun hr => by simpa [hr] using h1, rfl⟩

/-- A fetch changes nothing but what the handler of region 7 has seen. -/
theorem fetchFrom_state (s : State) (p : Place) :
    (s.fetchFrom p).state = { s with special := (s.fetchFrom p).state.special } := by cases p <;> rfl

/-- Without a handler a fetch changes nothing. -/
theorem fetch_state_absent {s : State} {md : Bool} {a : Word} {w : Loaded Half} (h : s.fetch md a = .ok w)
    (hs : s.cfg.special = .absent) : w.state = s := by
  obtain ⟨-, p, hp, -, rfl⟩ := fetch_ok h
  cases p with
  | mem loc => rfl
  | special b =>
    rw [(locate_special hp).1] at hs
    cases hs

/-- The state `s` after fetches that the handler of region 7 has seen. -/
def FetchedIn (s u : State) : Prop :=
  ∃ seen, u = { s with special := seen } ∧ (s.cfg.special = .absent → u = s)

theorem FetchedIn.refl (s : State) : FetchedIn s s := ⟨s.special, rfl, fun _ => rfl⟩

theorem FetchedIn.fetch {s u : State} (h : FetchedIn s u) {md : Bool} {a : Word} {w : Loaded Half}
    (hf : u.fetch md a = .ok w) : FetchedIn s w.state := by
  obtain ⟨-, p, -, -, hw⟩ := fetch_ok hf
  obtain ⟨seen, hu, habs⟩ := h
  refine ⟨w.state.special, ?_, fun hs => ?_⟩
  · have e := fetchFrom_state u p
    rw [← hw] at e
    subst hu
    exact e
  · have hus := habs hs
    subst hus
    exact fetch_state_absent hf hs

/-- An event is taken, whatever the handler has seen. -/
theorem FetchedIn.takesEvents {s u : State} (h : FetchedIn s u) (ht : u.TakesEvents) : s.TakesEvents := by
  obtain ⟨seen, rfl, -⟩ := h
  exact ht

/-- What a step that answers a next state did: took an interrupt, waited asleep, entered a trap, or ran the
instruction that was fetched and decoded. -/
theorem step_next {s t : State} (h : step s = .next t) :
    (∃ level, s.accepted = some level ∧ t = trapEntry (.interrupt level) s.pastBoundary)
    ∨ (s.accepted = none ∧ s.asleep = true ∧ t = s.pastBoundary)
    ∨ (s.accepted = none ∧ s.asleep = false
        ∧ ∃ u e, FetchedIn s.pastBoundary u ∧ t = trapEntry e u ∧ u.TakesEvents)
    ∨ (s.accepted = none ∧ s.asleep = false
        ∧ ∃ u iw iw2 i, FetchedIn s.pastBoundary u ∧ decode iw iw2 = .ok i ∧ exec i u = .next t) := by
  unfold step at h
  split at h
  · rename_i level ha
    cases h
    exact .inl ⟨level, ha, rfl⟩
  · rename_i ha
    split at h
    · rename_i hs
      unfold runAsleep at h
      split at h
      · cases h
      · cases h; exact .inr (.inl ⟨ha, hs, rfl⟩)
    · rename_i hs
      have hs : s.asleep = false := by simpa using hs
      have run : ∀ iw iw2 u, FetchedIn s.pastBoundary u → runDecoded (decode iw iw2) u = .next t →
          (∃ u e, FetchedIn s.pastBoundary u ∧ t = trapEntry e u ∧ u.TakesEvents)
          ∨ ∃ u iw iw2 i, FetchedIn s.pastBoundary u ∧ decode iw iw2 = .ok i ∧ exec i u = .next t := by
        intro iw iw2 u hu hd
        unfold runDecoded at hd
        split at hd
        · rename_i i hi; exact .inr ⟨u, iw, iw2, i, hu, hi, hd⟩
        · exact .inl ⟨u, _, hu, raise_next hd⟩
      have key : (∃ u e, FetchedIn s.pastBoundary u ∧ t = trapEntry e u ∧ u.TakesEvents)
          ∨ ∃ u iw iw2 i, FetchedIn s.pastBoundary u ∧ decode iw iw2 = .ok i ∧ exec i u = .next t := by
        unfold runInstruction at h
        rcases orStop_next h with ⟨a, ha, h⟩ | ⟨e, h⟩
        · have hf := (FetchedIn.refl s.pastBoundary).fetch ha
          split at h
          · rcases orStop_next h with ⟨b, hb, h⟩ | ⟨e, h⟩
            · exact run _ _ _ (hf.fetch hb) h
            · exact .inl ⟨_, e, hf, h⟩
          · exact run _ _ _ hf h
        · exact .inl ⟨_, e, FetchedIn.refl _, h⟩
      rcases key with k | k
      · exact .inr (.inr (.inl ⟨ha, hs, k⟩))
      · exact .inr (.inr (.inr ⟨ha, hs, k⟩))

end Sys2Proof.Machine
end

