-- ==== Sys2Proof/Tests/Slice0.lean ====
section
/-! SUPPORT. Tests: words written out from the encoding patterns of spec/opcode_table.json, single steps with values
calculated in spec/95_test_vectors.md, and for each obligation with hypotheses a state and operands that meet them. -/

namespace Sys2Proof.Tests

open Sys2Proof Sys2Proof.Machine

/-! ### Encoding: each pattern with n = 1, m = 2, a bank register 3, i = A5C3F.., d = 5A7E1.., unused bits 96 -/

theorem test_decode_group0_a :
    decode 0x0102 0 = .ok (.stcSr 1) ∧ decode 0x0112 0 = .ok (.stcGbr 1) ∧ decode 0x0122 0 = .ok (.stcVbr 1)
    ∧ decode 0x0132 0 = .ok (.stcSsr 1) ∧ decode 0x0142 0 = .ok (.stcSpc 1)
    ∧ decode 0x0152 0 = .ok (.stcUnk052 1) ∧ decode 0x01B2 0 = .ok (.stcBank 1 3)
    ∧ decode 0x0203 0 = .ok (.bsrf 2) ∧ decode 0x0223 0 = .ok (.bsaf 2) ∧ decode 0x0163 0 = .ok (.movliL 1)
    ∧ decode 0x0173 0 = .ok (.movcoL 1) ∧ decode 0x0183 0 = .ok (.pref 1) ∧ decode 0x0193 0 = .ok (.ocbi 1)
    ∧ decode 0x01A3 0 = .ok (.ocbp 1) ∧ decode 0x01B3 0 = .ok (.ocbwb 1) ∧ decode 0x01C3 0 = .ok (.movcaL 1) :=
  ⟨rfl, rfl, rfl, rfl, rfl, rfl, rfl, rfl, rfl, rfl, rfl, rfl, rfl, rfl, rfl, rfl⟩

theorem test_decode_group0_b :
    decode 0x01E3 0 = .ok (.icbi 1) ∧ decode 0x0124 0 = .ok (.movBStoreIdx 1 2)
    ∧ decode 0x0125 0 = .ok (.movWStoreIdx 1 2) ∧ decode 0x0126 0 = .ok (.movLStoreIdx 1 2)
    ∧ decode 0x0127 0 = .ok (.mulL 1 2) ∧ decode 0x0008 0 = .ok .clrt ∧ decode 0x0018 0 = .ok .sett
    ∧ decode 0x0028 0 = .ok .clrmac ∧ decode 0x0038 0 = .ok .ldtlb ∧ decode 0x0048 0 = .ok .clrs
    ∧ decode 0x0058 0 = .ok .sets ∧ decode 0x0068 0 = .ok .nott ∧ decode 0x0009 0 = .ok .nop
    ∧ decode 0x0019 0 = .ok .div0u ∧ decode 0x0129 0 = .ok (.movt 1) ∧ decode 0x0139 0 = .ok (.movrt 1) :=
  ⟨rfl, rfl, rfl, rfl, rfl, rfl, rfl, rfl, rfl, rfl, rfl, rfl, rfl, rfl, rfl, rfl⟩

theorem test_decode_group0_c :
    decode 0x02A9 0 = .ok (.movuaL0 2) ∧ decode 0x02E9 0 = .ok (.movuaLInc0 2)
    ∧ decode 0x010A 0 = .ok (.stsMach 1) ∧ decode 0x011A 0 = .ok (.stsMacl 1)
    ∧ decode 0x012A 0 = .ok (.stsPr 1) ∧ decode 0x013A 0 = .ok (.stcSgr 1)
    ∧ decode 0x014A 0 = .ok (.stcUnk04A 1) ∧ decode 0x015A 0 = .ok (.stsFpul 1)
    ∧ decode 0x016A 0 = .ok (.stsFpscr 1) ∧ decode 0x000B 0 = .ok .rts ∧ decode 0x001B 0 = .ok .sleep
    ∧ decode 0x002B 0 = .ok .rte ∧ decode 0x003B 0 = .ok .brk ∧ decode 0x005B 0 = .ok .resbank
    ∧ decode 0x006B 0 = .ok .rtsN ∧ decode 0x027B 0 = .ok (.rtvN 2) :=
  ⟨rfl, rfl, rfl, rfl, rfl, rfl, rfl, rfl, rfl, rfl, rfl, rfl, rfl, rfl, rfl, rfl⟩

theorem test_decode_group0_d :
    decode 0x00AB 0 = .ok .synco ∧ decode 0x012C 0 = .ok (.movBLoadIdx 1 2)
    ∧ decode 0x012D 0 = .ok (.movWLoadIdx 1 2) ∧ decode 0x012E 0 = .ok (.movLLoadIdx 1 2)
    ∧ decode 0x012F 0 = .ok (.macL 1 2) :=
  ⟨rfl, rfl, rfl, rfl, rfl⟩

theorem test_decode_group1 :
    decode 0x1125 0 = .ok (.movLStoreDisp 1 2 0x5) :=
  rfl

theorem test_decode_group2 :
    decode 0x2120 0 = .ok (.movBStore 1 2) ∧ decode 0x2121 0 = .ok (.movWStore 1 2)
    ∧ decode 0x2122 0 = .ok (.movLStore 1 2) ∧ decode 0x2123 0 = .ok (.casL 1 2)
    ∧ decode 0x2124 0 = .ok (.movBPush 1 2) ∧ decode 0x2125 0 = .ok (.movWPush 1 2)
    ∧ decode 0x2126 0 = .ok (.movLPush 1 2) ∧ decode 0x2127 0 = .ok (.div0s 1 2)
    ∧ decode 0x2128 0 = .ok (.tstR 1 2) ∧ decode 0x2129 0 = .ok (.andR 1 2) ∧ decode 0x212A 0 = .ok (.xorR 1 2)
    ∧ decode 0x212B 0 = .ok (.orR 1 2) ∧ decode 0x212C 0 = .ok (.cmpstr 1 2)
    ∧ decode 0x212D 0 = .ok (.xtrct 1 2) ∧ decode 0x212E 0 = .ok (.muluW 1 2)
    ∧ decode 0x212F 0 = .ok (.mulsW 1 2) :=
  ⟨rfl, rfl, rfl, rfl, rfl, rfl, rfl, rfl, rfl, rfl, rfl, rfl, rfl, rfl, rfl, rfl⟩

theorem test_decode_group3 :
    decode 0x3120 0 = .ok (.cmpeqR 1 2) ∧ decode 0x3122 0 = .ok (.cmphs 1 2)
    ∧ decode 0x3123 0 = .ok (.cmpge 1 2) ∧ decode 0x3124 0 = .ok (.div1 1 2)
    ∧ decode 0x3125 0 = .ok (.dmuluL 1 2) ∧ decode 0x3126 0 = .ok (.cmphi 1 2)
    ∧ decode 0x3127 0 = .ok (.cmpgt 1 2) ∧ decode 0x3128 0 = .ok (.subR 1 2)
    ∧ decode 0x312A 0 = .ok (.subc 1 2) ∧ decode 0x312B 0 = .ok (.subv 1 2) ∧ decode 0x312C 0 = .ok (.addR 1 2)
    ∧ decode 0x312D 0 = .ok (.dmulsL 1 2) ∧ decode 0x312E 0 = .ok (.addc 1 2)
    ∧ decode 0x312F 0 = .ok (.addv 1 2) :=
  ⟨rfl, rfl, rfl, rfl, rfl, rfl, rfl, rfl, rfl, rfl, rfl, rfl, rfl, rfl⟩

theorem test_decode_group4_a :
    decode 0x4100 0 = .ok (.shll 1) ∧ decode 0x4110 0 = .ok (.dt 1) ∧ decode 0x4120 0 = .ok (.shal 1)
    ∧ decode 0x4180 0 = .ok (.mulr 1) ∧ decode 0x42F0 0 = .ok (.movmuLPush 2) ∧ decode 0x4101 0 = .ok (.shlr 1)
    ∧ decode 0x4111 0 = .ok (.cmppz 1) ∧ decode 0x4121 0 = .ok (.shar 1) ∧ decode 0x4181 0 = .ok (.clipuB 1)
    ∧ decode 0x4191 0 = .ok (.clipsB 1) ∧ decode 0x41E1 0 = .ok (.stbank 1)
    ∧ decode 0x42F1 0 = .ok (.movmlLPush 2) ∧ decode 0x4102 0 = .ok (.stslMach 1)
    ∧ decode 0x4112 0 = .ok (.stslMacl 1) ∧ decode 0x4122 0 = .ok (.stslPr 1)
    ∧ decode 0x4132 0 = .ok (.stclSgr 1) :=
  ⟨rfl, rfl, rfl, rfl, rfl, rfl, rfl, rfl, rfl, rfl, rfl, rfl, rfl, rfl, rfl, rfl⟩

theorem test_decode_group4_b :
    decode 0x4142 0 = .ok (.stclUnk42 1) ∧ decode 0x4152 0 = .ok (.stslFpul 1)
    ∧ decode 0x4162 0 = .ok (.stslFpscr 1) ∧ decode 0x4103 0 = .ok (.stclSr 1)
    ∧ decode 0x4113 0 = .ok (.stclGbr 1) ∧ decode 0x4123 0 = .ok (.stclVbr 1)
    ∧ decode 0x4133 0 = .ok (.stclSsr 1) ∧ decode 0x4143 0 = .ok (.stclSpc 1)
    ∧ decode 0x4153 0 = .ok (.stclUnk53 1) ∧ decode 0x41B3 0 = .ok (.stclBank 1 3)
    ∧ decode 0x4104 0 = .ok (.rotl 1) ∧ decode 0x4124 0 = .ok (.rotcl 1) ∧ decode 0x4184 0 = .ok (.divu 1)
    ∧ decode 0x4194 0 = .ok (.divs 1) ∧ decode 0x41F4 0 = .ok (.movmuLPop 1) ∧ decode 0x4105 0 = .ok (.rotr 1) :=
  ⟨rfl, rfl, rfl, rfl, rfl, rfl, rfl, rfl, rfl, rfl, rfl, rfl, rfl, rfl, rfl, rfl⟩

theorem test_decode_group4_c :
    decode 0x4115 0 = .ok (.cmppl 1) ∧ decode 0x4125 0 = .ok (.rotcr 1) ∧ decode 0x4185 0 = .ok (.clipuW 1)
    ∧ decode 0x4195 0 = .ok (.clipsW 1) ∧ decode 0x42E5 0 = .ok (.ldbank 2)
    ∧ decode 0x41F5 0 = .ok (.movmlLPop 1) ∧ decode 0x4206 0 = .ok (.ldslMach 2)
    ∧ decode 0x4216 0 = .ok (.ldslMacl 2) ∧ decode 0x4226 0 = .ok (.ldslPr 2)
    ∧ decode 0x4236 0 = .ok (.ldclSgr 2) ∧ decode 0x4246 0 = .ok (.ldclUnk46 2)
    ∧ decode 0x4256 0 = .ok (.ldslFpul 2) ∧ decode 0x4266 0 = .ok (.ldslFpscr 2)
    ∧ decode 0x4207 0 = .ok (.ldclSr 2) ∧ decode 0x4217 0 = .ok (.ldclGbr 2)
    ∧ decode 0x4227 0 = .ok (.ldclVbr 2) :=
  ⟨rfl, rfl, rfl, rfl, rfl, rfl, rfl, rfl, rfl, rfl, rfl, rfl, rfl, rfl, rfl, rfl⟩

theorem test_decode_group4_d :
    decode 0x4237 0 = .ok (.ldclSsr 2) ∧ decode 0x4247 0 = .ok (.ldclSpc 2)
    ∧ decode 0x4257 0 = .ok (.ldclUnk57 2) ∧ decode 0x42B7 0 = .ok (.ldclBank 2 3)
    ∧ decode 0x4108 0 = .ok (.shll2 1) ∧ decode 0x4118 0 = .ok (.shll8 1) ∧ decode 0x4128 0 = .ok (.shll16 1)
    ∧ decode 0x4109 0 = .ok (.shlr2 1) ∧ decode 0x4119 0 = .ok (.shlr8 1) ∧ decode 0x4129 0 = .ok (.shlr16 1)
    ∧ decode 0x42A9 0 = .ok (.movuaL4 2) ∧ decode 0x42E9 0 = .ok (.movuaLInc4 2)
    ∧ decode 0x420A 0 = .ok (.ldsMach 2) ∧ decode 0x421A 0 = .ok (.ldsMacl 2)
    ∧ decode 0x422A 0 = .ok (.ldsPr 2) ∧ decode 0x423A 0 = .ok (.ldcSgr 2) :=
  ⟨rfl, rfl, rfl, rfl, rfl, rfl, rfl, rfl, rfl, rfl, rfl, rfl, rfl, rfl, rfl, rfl⟩

theorem test_decode_group4_e :
    decode 0x424A 0 = .ok (.ldcUnk4A 2) ∧ decode 0x425A 0 = .ok (.ldsFpul 2)
    ∧ decode 0x426A 0 = .ok (.ldsFpscr 2) ∧ decode 0x420B 0 = .ok (.jsr 2) ∧ decode 0x421B 0 = .ok (.tasB 2)
    ∧ decode 0x422B 0 = .ok (.jmp 2) ∧ decode 0x424B 0 = .ok (.jsrN4B 2)
    ∧ decode 0x428B 0 = .ok (.movBStoreInc 2) ∧ decode 0x429B 0 = .ok (.movWStoreInc 2)
    ∧ decode 0x42AB 0 = .ok (.movLStoreInc 2) ∧ decode 0x42CB 0 = .ok (.movBLoadDec 2)
    ∧ decode 0x42DB 0 = .ok (.movWLoadDec 2) ∧ decode 0x42EB 0 = .ok (.movLLoadDec 2)
    ∧ decode 0x412C 0 = .ok (.shad 1 2) ∧ decode 0x412D 0 = .ok (.shld 1 2) ∧ decode 0x420E 0 = .ok (.ldcSr 2) :=
  ⟨rfl, rfl, rfl, rfl, rfl, rfl, rfl, rfl, rfl, rfl, rfl, rfl, rfl, rfl, rfl, rfl⟩

theorem test_decode_group4_f :
    decode 0x421E 0 = .ok (.ldcGbr 2) ∧ decode 0x422E 0 = .ok (.ldcVbr 2) ∧ decode 0x423E 0 = .ok (.ldcSsr 2)
    ∧ decode 0x424E 0 = .ok (.ldcSpc 2) ∧ decode 0x425E 0 = .ok (.ldcUnk5E 2)
    ∧ decode 0x42BE 0 = .ok (.ldcBank 2 3) ∧ decode 0x412F 0 = .ok (.macW 1 2) :=
  ⟨rfl, rfl, rfl, rfl, rfl, rfl, rfl⟩

theorem test_decode_group5 :
    decode 0x5125 0 = .ok (.movLLoadDisp 1 2 0x5) :=
  rfl

theorem test_decode_group6 :
    decode 0x6120 0 = .ok (.movBLoad 1 2) ∧ decode 0x6121 0 = .ok (.movWLoad 1 2)
    ∧ decode 0x6122 0 = .ok (.movLLoad 1 2) ∧ decode 0x6123 0 = .ok (.movR 1 2)
    ∧ decode 0x6124 0 = .ok (.movBLoadInc 1 2) ∧ decode 0x6125 0 = .ok (.movWLoadInc 1 2)
    ∧ decode 0x6126 0 = .ok (.movLLoadInc 1 2) ∧ decode 0x6127 0 = .ok (.notR 1 2)
    ∧ decode 0x6128 0 = .ok (.swapB 1 2) ∧ decode 0x6129 0 = .ok (.swapW 1 2)
    ∧ decode 0x612A 0 = .ok (.negc 1 2) ∧ decode 0x612B 0 = .ok (.neg 1 2) ∧ decode 0x612C 0 = .ok (.extuB 1 2)
    ∧ decode 0x612D 0 = .ok (.extuW 1 2) ∧ decode 0x612E 0 = .ok (.extsB 1 2)
    ∧ decode 0x612F 0 = .ok (.extsW 1 2) :=
  ⟨rfl, rfl, rfl, rfl, rfl, rfl, rfl, rfl, rfl, rfl, rfl, rfl, rfl, rfl, rfl, rfl⟩

theorem test_decode_group7 :
    decode 0x71A5 0 = .ok (.addI 1 0xA5) :=
  rfl

theorem test_decode_group8 :
    decode 0x8015 0 = .ok (.movBStoreDisp 1 0x5) ∧ decode 0x8115 0 = .ok (.movWStoreDisp 1 0x5)
    ∧ decode 0x8396 0 = .ok (.jsrN83 0x96) ∧ decode 0x8425 0 = .ok (.movBLoadDisp 2 0x5)
    ∧ decode 0x8525 0 = .ok (.movWLoadDisp 2 0x5) ∧ decode 0x8696 0 = .ok (.bsetBclr 0x96)
    ∧ decode 0x8796 0 = .ok (.bstBld 0x96) ∧ decode 0x88A5 0 = .ok (.cmpeqI 0xA5)
    ∧ decode 0x895A 0 = .ok (.bt 0x5A) ∧ decode 0x8A12 0x3456 = .ok (.movi24 0x123456)
    ∧ decode 0x8B5A 0 = .ok (.bf 0x5A) ∧ decode 0x8CA5 0 = .ok (.ldsh8 0xA5)
    ∧ decode 0x8D5A 0 = .ok (.bts 0x5A) ∧ decode 0x8EA5 0 = .ok (.xpfx0 0xA5)
    ∧ decode 0x8F5A 0 = .ok (.bfs 0x5A) :=
  ⟨rfl, rfl, rfl, rfl, rfl, rfl, rfl, rfl, rfl, rfl, rfl, rfl, rfl, rfl, rfl⟩

theorem test_decode_group9 :
    decode 0x915A 0 = .ok (.movWLoadPc 1 0x5A) :=
  rfl

theorem test_decode_groupA :
    decode 0xA5A7 0 = .ok (.bra 0x5A7) :=
  rfl

theorem test_decode_groupB :
    decode 0xB5A7 0 = .ok (.bsr 0x5A7) :=
  rfl

theorem test_decode_groupC :
    decode 0xC05A 0 = .ok (.movBStoreGbr 0x5A) ∧ decode 0xC15A 0 = .ok (.movWStoreGbr 0x5A)
    ∧ decode 0xC25A 0 = .ok (.movLStoreGbr 0x5A) ∧ decode 0xC3A5 0 = .ok (.trapa 0xA5)
    ∧ decode 0xC45A 0 = .ok (.movBLoadGbr 0x5A) ∧ decode 0xC55A 0 = .ok (.movWLoadGbr 0x5A)
    ∧ decode 0xC65A 0 = .ok (.movLLoadGbr 0x5A) ∧ decode 0xC75A 0 = .ok (.mova 0x5A)
    ∧ decode 0xC8A5 0 = .ok (.tstI 0xA5) ∧ decode 0xC9A5 0 = .ok (.andI 0xA5)
    ∧ decode 0xCAA5 0 = .ok (.xorI 0xA5) ∧ decode 0xCBA5 0 = .ok (.orI 0xA5)
    ∧ decode 0xCCA5 0 = .ok (.tstBGbr 0xA5) ∧ decode 0xCDA5 0 = .ok (.andBGbr 0xA5)
    ∧ decode 0xCEA5 0 = .ok (.xorBGbr 0xA5) ∧ decode 0xCFA5 0 = .ok (.orBGbr 0xA5) :=
  ⟨rfl, rfl, rfl, rfl, rfl, rfl, rfl, rfl, rfl, rfl, rfl, rfl, rfl, rfl, rfl, rfl⟩

theorem test_decode_groupD :
    decode 0xD15A 0 = .ok (.movLLoadPc 1 0x5A) :=
  rfl

theorem test_decode_groupE :
    decode 0xE1A5 0 = .ok (.movI 1 0xA5) :=
  rfl

theorem test_decode_groupF_a :
    decode 0xF120 0 = .ok (.fadd 1 2) ∧ decode 0xF121 0 = .ok (.fsub 1 2) ∧ decode 0xF122 0 = .ok (.fmul 1 2)
    ∧ decode 0xF123 0 = .ok (.fdiv 1 2) ∧ decode 0xF124 0 = .ok (.fcmpeq 1 2)
    ∧ decode 0xF125 0 = .ok (.fcmpgt 1 2) ∧ decode 0xF126 0 = .ok (.fmovLoadIdx 1 2)
    ∧ decode 0xF127 0 = .ok (.fmovStoreIdx 1 2) ∧ decode 0xF128 0 = .ok (.fmovLoad 1 2)
    ∧ decode 0xF129 0 = .ok (.fmovLoadInc 1 2) ∧ decode 0xF12A 0 = .ok (.fmovStore 1 2)
    ∧ decode 0xF12B 0 = .ok (.fmovPush 1 2) ∧ decode 0xF12C 0 = .ok (.fmovR 1 2)
    ∧ decode 0xF10D 0 = .ok (.fsts 1) ∧ decode 0xF21D 0 = .ok (.flds 2) ∧ decode 0xF12D 0 = .ok (.float 1) :=
  ⟨rfl, rfl, rfl, rfl, rfl, rfl, rfl, rfl, rfl, rfl, rfl, rfl, rfl, rfl, rfl, rfl⟩

theorem test_decode_groupF_b :
    decode 0xF23D 0 = .ok (.ftrc 2) ∧ decode 0xF14D 0 = .ok (.fneg 1) ∧ decode 0xF15D 0 = .ok (.fabs 1)
    ∧ decode 0xF16D 0 = .ok (.fsqrt 1) ∧ decode 0xF97D 0 = .ok (.fsrra 0x9) ∧ decode 0xF18D 0 = .ok (.fldi0 1)
    ∧ decode 0xF19D 0 = .ok (.fldi1 1) ∧ decode 0xF1AD 0 = .ok (.fcnvsd 1) ∧ decode 0xF2BD 0 = .ok (.fcnvds 2)
    ∧ decode 0xF9ED 0 = .ok (.fipr 0x9) ∧ decode 0xF0FD 0 = .ok .fscaF0 ∧ decode 0xF1FD 0 = .ok .ftrv2F1
    ∧ decode 0xF2FD 0 = .ok .fscaF2 ∧ decode 0xF3FD 0 = .ok .fschg ∧ decode 0xF4FD 0 = .ok .fscaF4
    ∧ decode 0xF5FD 0 = .ok .ftrv2F5 :=
  ⟨rfl, rfl, rfl, rfl, rfl, rfl, rfl, rfl, rfl, rfl, rfl, rfl, rfl, rfl, rfl, rfl⟩

theorem test_decode_groupF_c :
    decode 0xF6FD 0 = .ok .fscaF6 ∧ decode 0xF7FD 0 = .ok .fpchg ∧ decode 0xF8FD 0 = .ok .fscaF8
    ∧ decode 0xF9FD 0 = .ok .ftrv2F9 ∧ decode 0xFAFD 0 = .ok .fscaFA ∧ decode 0xFBFD 0 = .ok .frchg
    ∧ decode 0xFCFD 0 = .ok .fscaFC ∧ decode 0xFDFD 0 = .ok .ftrv2FD ∧ decode 0xFEFD 0 = .ok .fscaFE
    ∧ decode 0xF12E 0 = .ok (.fmac 1 2) ∧ decode 0xF96F 0 = .ok (.resFF 0x9 0x6) :=
  ⟨rfl, rfl, rfl, rfl, rfl, rfl, rfl, rfl, rfl, rfl, rfl⟩

theorem test_encode_reserved32_a :
    encode (.movi20 1 0xA5C3F) = [0x01A0, 0x5C3F] ∧ encode (.movi20s 1 0xA5C3F) = [0x01A1, 0x5C3F]
    ∧ encode (.movBStoreD12 1 2 0x5A7) = [0x3121, 0x05A7] ∧ encode (.movWStoreD12 1 2 0x5A7) = [0x3121, 0x15A7]
    ∧ encode (.movLStoreD12 1 2 0x5A7) = [0x3121, 0x25A7] ∧ encode (.fmovStoreD12 1 2 0x5A7) = [0x3121, 0x35A7]
    ∧ encode (.movBLoadD12 1 2 0x5A7) = [0x3121, 0x45A7] ∧ encode (.movWLoadD12 1 2 0x5A7) = [0x3121, 0x55A7]
    ∧ encode (.movLLoadD12 1 2 0x5A7) = [0x3121, 0x65A7] ∧ encode (.fmovLoadD12 1 2 0x5A7) = [0x3121, 0x75A7]
    ∧ encode (.movuBLoadD12 1 2 0x5A7) = [0x3121, 0x85A7] :=
  ⟨rfl, rfl, rfl, rfl, rfl, rfl, rfl, rfl, rfl, rfl, rfl⟩

theorem test_wf_reserved32_a :
    Instr.wf (.movi20 1 0xA5C3F) = false ∧ Instr.wf (.movi20s 1 0xA5C3F) = false
    ∧ Instr.wf (.movBStoreD12 1 2 0x5A7) = false ∧ Instr.wf (.movWStoreD12 1 2 0x5A7) = false
    ∧ Instr.wf (.movLStoreD12 1 2 0x5A7) = false ∧ Instr.wf (.fmovStoreD12 1 2 0x5A7) = false
    ∧ Instr.wf (.movBLoadD12 1 2 0x5A7) = false ∧ Instr.wf (.movWLoadD12 1 2 0x5A7) = false
    ∧ Instr.wf (.movLLoadD12 1 2 0x5A7) = false ∧ Instr.wf (.fmovLoadD12 1 2 0x5A7) = false
    ∧ Instr.wf (.movuBLoadD12 1 2 0x5A7) = false :=
  ⟨rfl, rfl, rfl, rfl, rfl, rfl, rfl, rfl, rfl, rfl, rfl⟩

theorem test_encode_reserved32_b :
    encode (.movuWLoadD12 1 2 0x5A7) = [0x3121, 0x95A7] ∧ encode (.bclrB 1 0xA 0x5A7) = [0x31A9, 0x05A7]
    ∧ encode (.bsetB 1 0xA 0x5A7) = [0x31A9, 0x15A7] ∧ encode (.bstB 1 0xA 0x5A7) = [0x31A9, 0x25A7]
    ∧ encode (.bldB 1 0xA 0x5A7) = [0x31A9, 0x35A7] ∧ encode (.bandB 1 0xA 0x5A7) = [0x31A9, 0x45A7]
    ∧ encode (.borB 1 0xA 0x5A7) = [0x31A9, 0x55A7] ∧ encode (.bxorB 1 0xA 0x5A7) = [0x31A9, 0x65A7]
    ∧ encode (.bldnotB 1 0xA 0x5A7) = [0x31A9, 0xB5A7] ∧ encode (.bandnotB 1 0xA 0x5A7) = [0x31A9, 0xC5A7]
    ∧ encode (.bornotB 1 0xA 0x5A7) = [0x31A9, 0xD5A7] :=
  ⟨rfl, rfl, rfl, rfl, rfl, rfl, rfl, rfl, rfl, rfl, rfl⟩

theorem test_wf_reserved32_b :
    Instr.wf (.movuWLoadD12 1 2 0x5A7) = false ∧ Instr.wf (.bclrB 1 0xA 0x5A7) = false
    ∧ Instr.wf (.bsetB 1 0xA 0x5A7) = false ∧ Instr.wf (.bstB 1 0xA 0x5A7) = false
    ∧ Instr.wf (.bldB 1 0xA 0x5A7) = false ∧ Instr.wf (.bandB 1 0xA 0x5A7) = false
    ∧ Instr.wf (.borB 1 0xA 0x5A7) = false ∧ Instr.wf (.bxorB 1 0xA 0x5A7) = false
    ∧ Instr.wf (.bldnotB 1 0xA 0x5A7) = false ∧ Instr.wf (.bandnotB 1 0xA 0x5A7) = false
    ∧ Instr.wf (.bornotB 1 0xA 0x5A7) = false :=
  ⟨rfl, rfl, rfl, rfl, rfl, rfl, rfl, rfl, rfl, rfl, rfl⟩

theorem test_encode_superop :
    encode (.cmpbeq 1 2 0x5A) = [0x3120, 0x895A] ∧ encode (.cmpbne 1 2 0x5A) = [0x3120, 0x8B5A]
    ∧ encode (.cmpbge 1 2 0x5A) = [0x3123, 0x895A] ∧ encode (.cmpblt 1 2 0x5A) = [0x3123, 0x8B5A]
    ∧ encode (.cmpbgt 1 2 0x5A) = [0x3127, 0x895A] ∧ encode (.cmpble 1 2 0x5A) = [0x3127, 0x8B5A]
    ∧ encode (.shadImm 1 2 0xA5) = [0xE2A5, 0x412C] ∧ encode (.shldImm 1 2 0xA5) = [0xE2A5, 0x412D] :=
  ⟨rfl, rfl, rfl, rfl, rfl, rfl, rfl, rfl⟩

theorem test_wf_superop :
    Instr.wf (.cmpbeq 1 2 0x5A) = false ∧ Instr.wf (.cmpbne 1 2 0x5A) = false
    ∧ Instr.wf (.cmpbge 1 2 0x5A) = false ∧ Instr.wf (.cmpblt 1 2 0x5A) = false
    ∧ Instr.wf (.cmpbgt 1 2 0x5A) = false ∧ Instr.wf (.cmpble 1 2 0x5A) = false
    ∧ Instr.wf (.shadImm 1 2 0xA5) = false ∧ Instr.wf (.shldImm 1 2 0xA5) = false :=
  ⟨rfl, rfl, rfl, rfl, rfl, rfl, rfl, rfl⟩

/-- Spaces kept for 32-bit forms, and words no row has. -/
theorem test_decode_rejects :
    decode 0x0120 0 = .error .reserved32 ∧ decode 0x0121 0 = .error .reserved32
    ∧ decode 0x3121 0x5AAA = .error .reserved32 ∧ decode 0x3129 0x0AAA = .error .reserved32
    ∧ decode 0x0108 0 = .error .unassigned ∧ decode 0x4130 0 = .error .unassigned
    ∧ decode 0x8200 0 = .error .unassigned ∧ decode 0xF0CD 0 = .error .unassigned :=
  ⟨rfl, rfl, rfl, rfl, rfl, rfl, rfl, rfl⟩

theorem test_decode_truncated :
    decodeBytes .little [] = .error .truncated ∧ decodeBytes .little [0x09] = .error .truncated
    ∧ decodeBytes .big [0x8A, 0x12, 0x34] = .error .truncated := ⟨rfl, rfl, rfl⟩

theorem test_decode_bytes :
    decodeBytes .little [0xFF, 0x71, 0x00] = .ok (.addI 1 0xFF) ∧ decodeBytes .big [0x71, 0xFF] = .ok (.addI 1 0xFF) :=
  ⟨rfl, rfl⟩

theorem test_decodeTableWord :
    decodeTableWord 16 0x7123 = some (.addI 1 0x23) ∧ decodeTableWord 32 0x34568A12 = some (.movi24 0x123456)
    ∧ decodeTableWord 16 0x8A12 = some (.movi24 0x120000) ∧ decodeTableWord 16 0x0121 = none :=
  ⟨rfl, rfl, rfl, rfl⟩

theorem test_encode :
    encode (.movi24 0x123456) = [0x8A12, 0x3456] ∧ encode (.ldcBank 2 3) = [0x42BE]
    ∧ encode (.stclSpc 15) = [0x4F43] ∧ encode .rte = [0x002B] := ⟨rfl, rfl, rfl, rfl⟩

theorem test_wf :
    Instr.wf (.movi24 0xFFFFFF) = true ∧ Instr.wf (.resFF 0xF 0xF) = true ∧ Instr.wf (.xpfx0 0) = true
    ∧ Instr.wf .fscaF0 = true := ⟨rfl, rfl, rfl, rfl⟩

/-! ### One step each: values of spec/95_test_vectors.md part 2, calculated from the rules -/

/-- Supervisor mode with every other bit of SR 0, at 0x1000. -/
def sup : State := { State.reset with sr := 0x40000000, pc := 0x1000, fpscr := 0 }

/-- With `R[1] = a` and `R[2] = b`. -/
def two (s : State) (a b : Word) : State := (s.setR 1 a).setR 2 b

/-- With these bytes in memory from a location on. -/
def poke (s : State) (a : Nat) (l : List Byte) : State := { s with mem := memPutAll s.mem a l }

/-- Something of the state after an instruction, if it gives a next state. -/
def after {α : Type} (i : Instr) (s : State) (f : State → α) : Option α :=
  match exec i s with
  | .next t => some (f t)
  | .fault _ => none
  | .refused _ => none

theorem test_addc : after (.addc 1 2) (two { sup with sr := 0x40000001 } 0xFFFFFFFF 0)
    (fun t => (t.r 1, t.t, t.pc)) = some (0, true, 0x1002) := by decide

theorem test_addv : after (.addv 1 2) (two sup 0x80000000 0xFFFFFFFF) (fun t => (t.r 1, t.t))
    = some (0x7FFFFFFF, true) := by decide

theorem test_subc : after (.subc 1 2) (two { sup with sr := 0x40000001 } 0 0xFFFFFFFF) (fun t => (t.r 1, t.t))
    = some (0, true) := by decide

theorem test_subv : after (.subv 1 2) (two sup 0 0x80000000) (fun t => (t.r 1, t.t))
    = some (0x80000000, true) := by decide

theorem test_negc : after (.negc 1 2) (two { sup with sr := 0x40000001 } 7 0xFFFFFFFF) (fun t => (t.r 1, t.t))
    = some (0, true) := by decide

theorem test_addI : after (.addI 1 0x80) (two sup 0x100 0) (fun t => t.r 1) = some 0x80 := by decide

theorem test_div1_borrow : after (.div1 1 2) (two sup 0 7) (fun t => (t.r 1, t.q, t.t))
    = some (0xFFFFFFF9, true, false) := by decide

theorem test_div1_same : after (.div1 1 1) (two sup 3 0) (fun t => (t.r 1, t.q, t.t))
    = some (3, false, true) := by decide

theorem test_div0s : after (.div0s 1 2) (two sup 0x80000000 3) (fun t => t.sr) = some 0x40000101 := by decide

theorem test_cmpstr : after (.cmpstr 1 2) (two sup 0x11223344 0x22334411) (fun t => t.t) = some false := by decide

theorem test_cmpge : after (.cmpge 1 2) (two sup 0x80000000 0x7FFFFFFF) (fun t => t.t) = some false := by decide

theorem test_cmphs : after (.cmphs 1 2) (two sup 0x80000000 0x7FFFFFFF) (fun t => t.t) = some true := by decide

theorem test_xtrct : after (.xtrct 1 2) (two sup 0x12345678 0x9ABCDEF0) (fun t => t.r 1)
    = some 0xDEF01234 := by decide

theorem test_swapB : after (.swapB 1 2) (two sup 0 0x12345678) (fun t => t.r 1) = some 0x12347856 := by decide

theorem test_extsB : after (.extsB 1 2) (two sup 0 0x123456F8) (fun t => t.r 1) = some 0xFFFFFFF8 := by decide

theorem test_mulsW : after (.mulsW 1 2) (two sup 0x00008000 0x00007FFF) (fun t => (t.mach, t.macl))
    = some (0, 0xC0008000) := by decide

theorem test_dmulsL : after (.dmulsL 1 2) (two sup 0x80000000 0x7FFFFFFF) (fun t => (t.mach, t.macl))
    = some (0xC0000000, 0x80000000) := by decide

theorem test_dmuluL : after (.dmuluL 1 2) (two sup 0xFFFFFFFF 0xFFFFFFFF) (fun t => (t.mach, t.macl))
    = some (0xFFFFFFFE, 1) := by decide

theorem test_macL : after (.macL 1 2) (poke (poke (two sup 0x2000 0x2100) 0x2000 [3]) 0x2100 [0xFE, 0xFF, 0xFF, 0xFF])
    (fun t => (t.mach, t.macl, t.r 1, t.r 2)) = some (0xFFFFFFFF, 0xFFFFFFFA, 0x2004, 0x2104) := by decide

theorem test_macL_saturates : after (.macL 1 1) (poke (two { sup with sr := 0x40000002 } 0x2000 0) 0x2000
      [0xFF, 0xFF, 0xFF, 0x7F, 0xFF, 0xFF, 0xFF, 0x7F])
    (fun t => (t.mach, t.macl, t.r 1)) = some (0x7FFF, 0xFFFFFFFF, 0x2008) := by decide

theorem test_macW : after (.macW 1 2) (poke (poke (two { sup with macl := 0xFFFFFFFF } 0x2000 0x2100) 0x2000 [1]) 0x2100 [1])
    (fun t => (t.mach, t.macl, t.r 1, t.r 2)) = some (1, 0, 0x2002, 0x2102) := by decide

theorem test_macW_saturates : after (.macW 1 1) (poke (two { sup with sr := 0x40000002, macl := 0x7FFFFFFF } 0x2000 0)
    0x2000 [1, 0, 1, 0]) (fun t => (t.macl, t.freeCtr)) = some (0x7FFFFFFF, 1) := by decide

theorem test_shad_right : after (.shad 1 2) (two sup 0x80000010 0xFFFFFFFC) (fun t => t.r 1)
    = some 0xF8000001 := by decide

theorem test_shad_all : after (.shad 1 2) (two sup 0x80000010 0xFFFFFFE0) (fun t => t.r 1)
    = some 0xFFFFFFFF := by decide

theorem test_shld_all : after (.shld 1 2) (two sup 0x80000010 0xFFFFFFE0) (fun t => t.r 1) = some 0 := by decide

theorem test_rotcr : after (.rotcr 1) (two { sup with sr := 0x40000001 } 2 0) (fun t => (t.r 1, t.t))
    = some (0x80000001, false) := by decide

theorem test_shar : after (.shar 1) (two sup 0x80000001 0) (fun t => (t.r 1, t.t))
    = some (0xC0000000, true) := by decide

theorem test_dt : after (.dt 1) (two { sup with sr := 0x40000001 } 0 0) (fun t => (t.r 1, t.t))
    = some (0xFFFFFFFF, false) := by decide

theorem test_ldsh8 : after (.ldsh8 0x80) (sup.setR 0 0x12) (fun t => t.r 0) = some 0x1280 := by decide

theorem test_movWStore_big :
    after (.movWStore 1 2) (two { sup with cfg := { sup.cfg with endianLocal := .big } } 0x2002 0x11223344)
    (fun t => t.mem) = some [(0x2002, 0x33), (0x2003, 0x44)] := by decide

theorem test_movLPush_same : after (.movLPush 1 1) (two sup 0x2004 0) (fun t => (t.mem, t.r 1))
    = some ([(0x2000, 0x04), (0x2001, 0x20)], 0x2000) := by decide

theorem test_movBLoad : after (.movBLoad 1 2) (poke (two sup 0 0x2001) 0x2001 [0xFF]) (fun t => t.r 1)
    = some 0xFFFFFFFF := by decide

theorem test_movLLoadInc_same : after (.movLLoadInc 1 1) (poke (two sup 0x2000 0) 0x2000 [0xEF, 0xCD, 0xAB, 0x89])
    (fun t => t.r 1) = some 0x89ABCDEF := by decide

theorem test_movWLoadDisp : after (.movWLoadDisp 2 3) (poke (two sup 0 0x2000) 0x2006 [0x40, 0x9C])
    (fun t => t.r 0) = some 0xFFFF9C40 := by decide

theorem test_movLStoreGbr : after (.movLStoreGbr 0xFF) ({ sup with gbr := 0x2000 }.setR 0 0x123456AB) (fun t => t.mem)
    = some [(0x23FC, 0xAB), (0x23FD, 0x56), (0x23FE, 0x34), (0x23FF, 0x12)] := by decide

theorem test_casL_equal : after (.casL 1 2) (poke ((two sup 9 5).setR 0 0x2000) 0x2000 [5])
    (fun t => (t.r 1, t.t, t.mem)) = some (5, true, [(0x2000, 9)]) := by decide

theorem test_casL_differs : after (.casL 1 2) (poke ((two sup 9 5).setR 0 0x2000) 0x2000 [7])
    (fun t => (t.r 1, t.t, t.mem)) = some (7, false, [(0x2000, 7)]) := by decide

theorem test_tasB : after (.tasB 1) (two sup 0x2001 0) (fun t => (t.t, t.mem))
    = some (true, [(0x2001, 0x80)]) := by decide

theorem test_xorBGbr : after (.xorBGbr 0xFF) (poke ({ sup with gbr := 0x2000 }.setR 0 5) 0x2005 [0xA5]) (fun t => t.mem)
    = some [(0x2005, 0x5A)] := by decide

theorem test_movLLoadPc : after (.movLLoadPc 1 3) (poke { sup with pc := 0x1002 } 0x1010 [0xEF, 0xCD, 0xAB, 0x89])
    (fun t => t.r 1) = some 0x89ABCDEF := by decide

theorem test_mova : after (.mova 3) { sup with pc := 0x1002 } (fun t => t.r 0) = some 0x1010 := by decide

theorem test_bra : after (.bra 0x800) sup (fun t => (t.slot, t.pc)) = some (some ⟨4, none⟩, 0x1002) := by decide

theorem test_bsrf : after (.bsrf 1) (two sup 0xFFFFFFFC 0) (fun t => (t.slot, t.pr))
    = some (some ⟨0x1000, none⟩, 0x1004) := by decide

theorem test_bts_not_taken : after (.bts 4) sup (fun t => (t.slot, t.pc))
    = some (some ⟨0x1004, none⟩, 0x1002) := by decide

theorem test_bt : after (.bt 0x80) { sup with sr := 0x40000001 } (fun t => t.pc) = some 0xF04 := by decide

theorem test_slot_target : after .nop { sup with slot := some ⟨0x3000, none⟩ } (fun t => (t.pc, t.slot))
    = some (0x3000, none) := by decide

theorem test_trapa : after (.trapa 0x20) { sup with sr := 1 } (fun t => (t.sr, t.ssr, t.spc, t.pc))
    = some (0x70000001, 1, 0x1002, 0x100) := by decide

theorem test_trap_in_slot : after (.movLLoad 1 2) { two sup 0 0x2002 with slot := some ⟨0x3000, none⟩ }
    (fun t => (t.spc, t.slot, t.pc)) = some (0xFFE, none, 0x100) := by decide

theorem test_rte : after .rte { sup with sr := 0x70000000, ssr := 0xFFFFFFFF, spc := 0x1234 }
    (fun t => (t.sr, t.slot)) = some (0x700083F3, some ⟨0x1234, some true⟩) := by decide

theorem test_ldclSr_bank : after (.ldclSr 1) (poke (two sup 0x2FFC 0) 0x2FFC [1])
    (fun t => (t.sr, t.bankB[1], t.r 1)) = some (1, 0x3000, 0) := by decide

theorem test_ldcBank : after (.ldcBank 1 3) (two sup 0x12345678 0) (fun t => (t.bankA[3], t.r 3))
    = some (0x12345678, 0) := by decide

theorem test_ldsFpscr : after (.ldsFpscr 1) (two sup 0xFFFFFFFF 0) (fun t => t.fpscr) = some 0x003C0003 := by decide

theorem test_stclSsr : after (.stclSsr 15) ({ sup with ssr := 0xF1 }.setR 15 0x3000) (fun t => (t.r 15, t.mem))
    = some (0x2FFC, [(0x2FFC, 0xF1)]) := by decide

theorem test_movi24 : after (.movi24 0x123456) sup (fun t => (t.r 0, t.pc)) = some (0x123456, 0x1004) := by decide

theorem test_cmpbne : after (.cmpbne 1 2 4) (two sup 5 6) (fun t => (t.t, t.pc)) = some (false, 0x100E) := by decide

theorem test_fadd : after (.fadd 1 2) ((sup.setFr 1 0x3F800000).setFr 2 0x40000000) (fun t => t.fr 1)
    = some 0x40400000 := by decide +kernel

theorem test_fadd_double : after (.fadd 0 2)
    (({ sup with fpscr := 0x00080000 }.setFr 0 0x3FF80000).setFr 2 0x40080000) (fun t => (t.fr 0, t.fr 1))
    = some (0x40120000, 0) := by decide +kernel

theorem test_fdiv : after (.fdiv 1 2) ((sup.setFr 1 0x3F800000).setFr 2 0x40000000) (fun t => t.fr 1)
    = some 0x3F000000 := by decide +kernel

theorem test_fsqrt : after (.fsqrt 1) (sup.setFr 1 0x40800000) (fun t => t.fr 1) = some 0x40000000 := by decide +kernel

theorem test_fmac : after (.fmac 1 2) (((sup.setFr 0 0x40000000).setFr 2 0x40400000).setFr 1 0x3F800000)
    (fun t => t.fr 1) = some 0x40E00000 := by decide +kernel

theorem test_ftrc : after (.ftrc 2) (sup.setFr 2 0xC0200000) (fun t => t.fpul) = some 0xFFFFFFFE := by decide +kernel

theorem test_float : after (.float 1) { sup with fpul := 0xFFFFFFFF } (fun t => t.fr 1)
    = some 0xBF800000 := by decide +kernel

theorem test_fcmpgt : after (.fcmpgt 1 2) ((sup.setFr 1 0x40000000).setFr 2 0x3F800000) (fun t => t.t)
    = some true := by decide +kernel

theorem test_fcnvds : after (.fcnvds 2) ({ sup with fpscr := 0x00080000 }.setFr 2 0x3FF80000) (fun t => t.fpul)
    = some 0x3FC00000 := by decide +kernel

theorem test_fmov_pair : after (.fmovR 1 2)
    (({ sup with fpscr := 0x00100000 }.setFr 2 0x40080000).setFr 3 1) (fun t => (t.xf 0, t.xf 1, t.fr 1))
    = some (0x40080000, 1, 0) := by decide

theorem test_fmovPush_pair : after (.fmovPush 15 2)
    ((({ sup with fpscr := 0x00100000 }.setFr 2 0x40080000).setFr 3 1).setR 15 0x3000) (fun t => (t.r 15, t.mem))
    = some (0x2FF8, [(0x2FFA, 0x08), (0x2FFB, 0x40), (0x2FFC, 1)]) := by decide

/-- A run begins with its image in memory, the first entry for a location counting, and nothing presented. -/
theorem test_launch :
    let t := State.launch Config.resetSh4 Config.standard [(0x2000, 1), (0x1000, 9), (0x2000, 2), (0x3000, 0)] [some 5]
    (t.mem, t.irqs) = ([(0x1000, 9), (0x2000, 1)], [none, some 5]) := by decide

/-- Under FPNUM_IEEE a rounding operation with RM = 2 is refused, a compare is not. -/
theorem test_rounding_refused : exec (.fmul 1 2) { sup with fpscr := 2 } = .refused .roundingMode := rfl

theorem test_fcmpeq_anyRm : after (.fcmpeq 1 2) { sup with fpscr := 2 } (fun t => t.t) = some true := by decide +kernel

/-- A store to region 7 is seen by its handler and changes no byte of memory; without one it is refused. -/
theorem test_special_store : after (.movBStore 1 2) (two { sup with cfg := { sup.cfg with special := .present } }
      0xE0000001 0x1FF) (fun t => (t.special, t.mem, t.stored)) = some ([.write 1 0xE0000001 0xFF], [], [0xE0000001]) := by
  decide

theorem test_special_absent : exec (.movBStore 1 2) (two sup 0xE0000001 0x1FF) = .refused .specialRegion := rfl

/-- A step fetches the word, decodes it and runs it: `ADD #-1,R1` in either byte order. -/
theorem test_step_little : (match step (poke sup 0x1000 [0xFF, 0x71]) with
    | .next t => some (t.r 1, t.pc)
    | .fault _ => none
    | .refused _ => none) = some (0xFFFFFFFF, 0x1002) := by decide

theorem test_step_big : (match step (poke { sup with cfg := { sup.cfg with endian := .big } } 0x1000 [0x71, 0xFF]) with
    | .next t => some (t.r 1, t.pc)
    | .fault _ => none
    | .refused _ => none) = some (0xFFFFFFFF, 0x1002) := by decide

theorem test_withFetchWord : (match step (State.reset.withFetchWord 32 0x34568A12) with
    | .next t => some (t.r 0, t.pc)
    | .fault _ => none
    | .refused _ => none) = some (0x123456, 0xA0000004) := by decide

/-! ### Witnesses: the hypotheses of each obligation can be met, each clause's at a boundary value -/

/-- User mode. -/
def usr : State := { sup with sr := 0 }

/-- In a delay slot. -/
def inSlot : State := { sup with slot := some ⟨0x3000, none⟩ }

/-- SR.BL = 1. -/
def blocked : State := { sup with sr := 0x50000000 }

/-- FPSCR.PR = 1. -/
def dbl : State := { sup with fpscr := 0x00080000 }

/-- FPSCR.SZ = 1. -/
def pairs : State := { sup with fpscr := 0x00100000 }

/-- A flat 32-bit address space. -/
def flat : State := { sup with cfg := { sup.cfg with addrMode := .sh2 } }

/-- With an MMU. -/
def mapped : State := { sup with cfg := { sup.cfg with mmu := .present } }

/-- With a handler for region 7. -/
def handled : State := { sup with cfg := { sup.cfg with special := .present } }

/-- FPSCR.RM = 2. -/
def rm2 : State := { sup with fpscr := 2 }

/-- An FPNUM instance other than FPNUM_IEEE. -/
def otherFp (s : State) : State := { s with cfg := { s.cfg with fpnum := .other } }

theorem sup_takes_events : sup.TakesEvents := ⟨by decide, by decide⟩

theorem inSlot_takes_events : inSlot.TakesEvents := ⟨by decide, by decide⟩

theorem sup_inv : sup.Inv :=
  ⟨by decide, by decide, by unfold State.srListed; decide, by unfold State.fpscrListed; decide, by decide,
    (fun _ h => nomatch h), fun _ => rfl⟩

theorem witness_DecodeOfEncode : (Instr.movBStoreDisp 0xF 0xF).wf = true ∧ (Instr.movi24 0xFFFFFF).wf = true := by
  decide

theorem witness_EncodeOfDecode : decodeBytes .little [0x12, 0x8A, 0x56, 0x34] = .ok (.movi24 0x123456)
    ∧ decodeBytes .big [0x8A, 0x12, 0x34, 0x56] = .ok (.movi24 0x123456) := ⟨rfl, rfl⟩

theorem witness_InstructionLength : (0x8A00#16).extractLsb' 8 8 = 0x8A#8 ∧ (0x8AFF#16).extractLsb' 8 8 = 0x8A#8
    ∧ (0x89FF#16).extractLsb' 8 8 ≠ 0x8A#8 ∧ (0x8B00#16).extractLsb' 8 8 ≠ 0x8A#8 := by decide

theorem witness_StepRunsDecoded_oneWord :
    let s := poke sup 0x1000 [0x09, 0x00]
    s.accepted = none ∧ s.asleep = false ∧ s.pastBoundary.fetch s.fetchMd s.pc = .ok ⟨0x0009, s⟩
      ∧ isTwoWord 0x0009 = false ∧ decode 0x0009 0 = .ok .nop := ⟨rfl, rfl, rfl, rfl, rfl⟩

theorem witness_StepRunsDecoded_noInstruction :
    sup.accepted = none ∧ sup.asleep = false ∧ sup.pastBoundary.fetch sup.fetchMd sup.pc = .ok ⟨0x0000, sup⟩
      ∧ isTwoWord 0x0000 = false ∧ decode 0x0000 0 = .error .reserved32 := ⟨rfl, rfl, rfl, rfl, rfl⟩

theorem witness_StepRunsDecoded_twoWords :
    let s := poke sup 0x1000 [0x12, 0x8A, 0x56, 0x34]
    s.accepted = none ∧ s.asleep = false ∧ s.pastBoundary.fetch s.fetchMd s.pc = .ok ⟨0x8A12, s⟩
      ∧ isTwoWord 0x8A12 = true ∧ s.fetch s.fetchMd (s.pc + 2) = .ok ⟨0x3456, s⟩
      ∧ decode 0x8A12 0x3456 = .ok (.movi24 0x123456) := ⟨rfl, rfl, rfl, rfl, rfl, rfl⟩

theorem witness_StepRunsDecoded_firstFetch :
    let s := { sup with pc := 0x1001 }
    s.accepted = none ∧ s.asleep = false
      ∧ s.pastBoundary.fetch s.fetchMd s.pc = .error (.event (.addressError .fetch 0x1001)) ∧ s.TakesEvents :=
  ⟨rfl, rfl, rfl, rfl, rfl⟩

theorem witness_StepRunsDecoded_secondFetch :
    let s := poke { usr with pc := 0x7FFFFFFE } 0x1FFFFFFE [0x12, 0x8A]
    s.accepted = none ∧ s.asleep = false ∧ s.pastBoundary.fetch s.fetchMd s.pc = .ok ⟨0x8A12, s⟩
      ∧ isTwoWord 0x8A12 = true
      ∧ s.fetch s.fetchMd (s.pc + 2) = .error (.event (.addressError .fetch 0x80000000)) ∧ s.TakesEvents :=
  ⟨rfl, rfl, rfl, rfl, rfl, rfl, rfl⟩

theorem witness_FetchReadsMemory :
    (0x1001#32).getLsbD 0 = true ∧ (0x80000000#32).getLsbD 0 = false ∧ usr.cfg.addrMode = .sh4
      ∧ (0x80000000#32).msb = true
      ∧ (let s := { sup with stored := [0x1001] }
        s.locate .fetch true 0x1000 = .ok (.mem 0x1000) ∧ s.cfg.ifetch = .refuse ∧ (Place.mem 0x1000).loc + 1 ∈ s.stored)
      ∧ sup.locate .fetch true 0xDFFFFFFE = .ok (.mem 0x1FFFFFFE) ∧ 0x1FFFFFFE ∉ sup.stored
      ∧ 0x1FFFFFFE + 1 ∉ sup.stored := ⟨by decide, by decide, rfl, by decide, ⟨rfl, rfl, by decide⟩, rfl, by decide,
        by decide⟩

theorem witness_FetchReadsMemory_special :
    (0xE0000000#32).getLsbD 0 = false ∧ handled.locate .fetch true 0xE0000000 = .ok (.special 0xE0000000)
      ∧ (0xE0000000#32).toNat ∉ handled.stored ∧ (0xE0000000#32).toNat + 1 ∉ handled.stored
      ∧ handled.locate .fetch true 0xFFFFFFFE = .ok (.special 0xFFFFFFFE) :=
  ⟨by decide, rfl, by decide, by decide, rfl⟩

theorem witness_InterruptsAndSleep_accepted :
    let s := { sup with sr := 0x400000E0, irqs := [some 0xF] }
    s.bl = false ∧ s.slot = none ∧ s.im < 0xF := by decide

theorem witness_InterruptsAndSleep_masked :
    let s := { sup with sr := 0x400000F0, irqs := [some 0xF] }
    s.bl = false ∧ s.slot = none ∧ 0xF ≤ s.im := by decide

theorem witness_InterruptsAndSleep_waits :
    let s := { sup with asleep := true, irqs := [none] }
    s.asleep = true ∧ s.accepted = none ∧ s.irqs ≠ [] := by decide

theorem witness_InterruptsAndSleep_stuck :
    let s := { sup with asleep := true }
    s.asleep = true ∧ s.irqs = [] := by decide

theorem witness_PcAfterInstruction_plain :
    Instr.nop.wf = true ∧ assignsPc .nop = false ∧ inSlot.slot = some ⟨0x3000, none⟩
      ∧ ∃ t, exec .nop inSlot = .next t := ⟨rfl, rfl, rfl, _, rfl⟩

theorem witness_PcAfterInstruction_trap :
    Instr.rts.wf = true ∧ inSlot.slot = some ⟨0x3000, none⟩ ∧ exec .rts inSlot = .next (trapEntry .slotIllegal inSlot) :=
  ⟨rfl, rfl, rfl⟩

theorem witness_StepKeepsInvariant : sup.Inv ∧ ∃ t, step sup = .next t := ⟨sup_inv, _, rfl⟩

theorem witness_UserModeIsolation_stays :
    let s := poke usr 0x1000 [0x09, 0x00]
    s.md = false ∧ ∃ t, step s = .next t ∧ t.md = false := ⟨by decide, _, rfl, by decide⟩

theorem witness_UserModeIsolation_traps :
    usr.md = false ∧ step usr = .next (trapEntry .illegalInstruction usr.pastBoundary) := ⟨by decide, rfl⟩

theorem witness_UserModeCannotRead :
    let s := poke usr 0x1000 [0x23, 0x61]
    s.md = false ∧ ∃ t, step s = .next t ∧ t.md = false := ⟨by decide, _, rfl, by decide⟩

theorem witness_ModeBitsWriters : ∃ t, exec (.ldcSr 1) sup = .next t := ⟨_, rfl⟩

theorem witness_FlagWriters :
    (∃ t, exec .clrs sup = .next t) ∧ (∃ t, exec (.div1 1 2) sup = .next t) ∧ (∃ t, exec .nop sup = .next t)
      ∧ writesT .nop = false ∧ writesWholeSr .nop = false ∧ writesWholeSr (.div1 1 2) = false :=
  ⟨⟨_, rfl⟩, ⟨_, rfl⟩, ⟨_, rfl⟩, rfl, rfl, rfl⟩

theorem witness_MemoryFrame :
    let s := two sup 0x2000 0xFFFFFFFF
    Memory.wf s.mem = true ∧ (∃ t, exec (.movLStore 1 2) s = .next t)
      ∧ storedSpans (.movLStore 1 2) s = [(0x2000, 4)] := ⟨rfl, ⟨_, rfl⟩, by decide⟩

theorem witness_ParametersAndDbrConstant : ∃ t, step sup = .next t := ⟨_, rfl⟩

theorem witness_SavedStateWhileBlocked :
    blocked.bl = true ∧ (∃ t, exec .nop blocked = .next t) ∧ Instr.nop.wf = true ∧ assignsPc .nop = false :=
  ⟨by decide, ⟨_, rfl⟩, rfl, rfl⟩

theorem witness_TrapEntryState :
    { sup.cfg with sgrOnTrap := .r15 }.sgrOnTrap = .r15 ∧ { sup.cfg with sgrOnTrap := .unchanged }.sgrOnTrap = .unchanged
      ∧ (8 : Reg).msb = true ∧ (15 : Reg).msb = true := by decide

theorem witness_SavedPcByEvent :
    sup.slot = none ∧ inSlot.slot ≠ none
      ∧ ({ sup with slot := some ⟨0x3000, some true⟩ } : State).slot = some ⟨0x3000, some true⟩ := by decide

theorem witness_ReservedEncodingsRaise :
    isReserved (.fsrra 0xF) = true ∧ isReserved (.resFF 0 0) = true ∧ sup.TakesEvents ∧ inSlot.TakesEvents :=
  ⟨rfl, rfl, sup_takes_events, inSlot_takes_events⟩

theorem witness_PrivilegedInUserMode : isPrivileged .rte = true ∧ usr.md = false ∧ usr.TakesEvents :=
  ⟨rfl, by decide, by decide, by decide⟩

theorem witness_BannedInDelaySlot :
    bannedInSlot (.mova 0) = true ∧ inSlot.slot = some ⟨0x3000, none⟩ ∧ inSlot.TakesEvents :=
  ⟨rfl, rfl, inSlot_takes_events⟩

theorem witness_FpuDisabledRaises :
    isFpu (.stsFpscr 1) = true ∧ ({ sup with sr := 0x40008000 } : State).fd = true
      ∧ ({ sup with sr := 0x40008000 } : State).TakesEvents ∧ sup.slot = none
      ∧ ({ inSlot with sr := 0x40008000 } : State).TakesEvents ∧ inSlot.slot ≠ none :=
  ⟨rfl, by decide, ⟨by decide, by decide⟩, rfl, ⟨by decide, by decide⟩, by decide⟩

theorem witness_TrapaAndBreakpoint : sup.slot = none ∧ sup.bl = false ∧ blocked.slot = none ∧ blocked.bl = true := by
  decide

theorem witness_DataAddressErrors_aligned :
    let s := two sup 0 0x2003
    s.TakesEvents ∧ Admitted (.movLLoad 1 2) s
      ∧ dataAccess (.movLLoad 1 2) s = some ⟨.read, some .l, 0x2003⟩
      ∧ (DataAccess.mk .read (some .l) 0x2003).ea.toNat % (DataAccess.mk .read (some .l) 0x2003).bytes ≠ 0 :=
  ⟨⟨by decide, by decide⟩, ⟨by decide, by decide, by decide⟩, by decide, by decide⟩

theorem witness_DataAddressErrors_pair :
    let s := two pairs 0 0x2004
    s.TakesEvents ∧ Admitted (.fmovLoad 1 2) s ∧ dataAccess (.fmovLoad 1 2) s = some ⟨.read, none, 0x2004⟩
      ∧ (DataAccess.mk .read none 0x2004).ea.toNat % (DataAccess.mk .read none 0x2004).bytes ≠ 0 :=
  ⟨⟨by decide, by decide⟩, ⟨by decide, by decide, by decide⟩, by decide, by decide⟩

theorem witness_DataAddressErrors_flat :
    flat.TakesEvents ∧ flat.cfg.addrMode = .sh2 ∧ (0xFFFFFFFC#32).toNat % Size.l.bytes = 0 :=
  ⟨⟨by decide, by decide⟩, rfl, by decide⟩

theorem witness_DataAddressErrors_second :
    let s := two sup 0x2000 0x2001
    s.TakesEvents ∧ (s.r 2).toNat % 4 ≠ 0 ∧ (s.r 2).toNat % 2 ≠ 0 ∧ s.read .l (s.r 1) = .ok ⟨0, s⟩
      ∧ s.read .w (s.r 1) = .ok ⟨0, s⟩ := ⟨⟨by decide, by decide⟩, by decide, by decide, rfl, rfl⟩

/-- Region 7 without a handler, and a pair there in user mode: a stop of each kind. -/
theorem witness_DataAddressErrors_stops :
    let s := two sup 0 0xE0000000
    let u := two usr 0 0xFFFFFFF8
    let d := { u with fpscr := 0x00100000 }
    s.TakesEvents ∧ Admitted (.movLLoad 1 2) s ∧ dataAccess (.movLLoad 1 2) s = some ⟨.read, some .l, 0xE0000000⟩
      ∧ s.Stops ⟨.read, some .l, 0xE0000000⟩ (.refuse .specialRegion)
      ∧ d.TakesEvents ∧ Admitted (.fmovLoad 1 2) d ∧ dataAccess (.fmovLoad 1 2) d = some ⟨.read, none, 0xFFFFFFF8⟩
      ∧ d.Stops ⟨.read, none, 0xFFFFFFF8⟩ (.event (.addressError .read 0xFFFFFFF8)) :=
  ⟨⟨by decide, by decide⟩, ⟨by decide, by decide, by decide⟩, by decide, rfl, ⟨by decide, by decide⟩,
    ⟨by decide, by decide, by decide⟩, by decide, rfl⟩

/-- The first check passes, the second passes, stops with an event, or has no step. -/
theorem witness_DataAddressErrors_follows :
    let s := two usr 0x7FFFFFFC 0
    sup.TakesEvents ∧ sup.check .write .b (sup.r 1) = .ok (.mem 0) ∧ sup.check .write .b (sup.gbr + sup.r 0) = .ok (.mem 0)
      ∧ sup.check .write .l (sup.r 0) = .ok (.mem 0)
      ∧ s.TakesEvents ∧ s.read .l (s.r 1) = .ok ⟨0, s⟩ ∧ s.read .w (s.r 1) = .ok ⟨0, s⟩
      ∧ s.check .read .l (s.r 1 + 4) = .error (.event (.addressError .read 0x80000000))
      ∧ (two sup 0 0xFFFFFFFC).check .read .l 0xFFFFFFFC = .error (.refuse .specialRegion) :=
  ⟨⟨by decide, by decide⟩, rfl, rfl, rfl, ⟨by decide, by decide⟩, rfl, rfl, rfl, rfl⟩

theorem witness_DataAddressErrors_user :
    let s := two usr 0 0x80000000
    s.TakesEvents ∧ Admitted (.movBLoad 1 2) s ∧ s.cfg.addrMode = .sh4 ∧ s.md = false
      ∧ dataAccess (.movBLoad 1 2) s = some ⟨.read, some .b, 0x80000000⟩ ∧ (0x80000000#32).msb = true :=
  ⟨⟨by decide, by decide⟩, ⟨by decide, by decide, by decide⟩, rfl, by decide, by decide, by decide⟩

theorem witness_Locations :
    flat.cfg.addrMode = .sh2 ∧ sup.cfg.addrMode = .sh4 ∧ sup.cfg.mmu = .absent ∧ mapped.cfg.addrMode = .sh4
      ∧ mapped.cfg.mmu = .present
      ∧ (0x80000000#32 ≤ 0x80000000#32 ∧ 0x80000000#32 < 0xC0000000#32)
      ∧ (0x80000000#32 ≤ 0xBFFFFFFF#32 ∧ 0xBFFFFFFF#32 < 0xC0000000#32)
      ∧ sup.cfg.special = .absent ∧ handled.cfg.special = .present ∧ handled.cfg.addrMode = .sh4
      ∧ 0xE0000000#32 ≤ 0xE0000000#32 ∧ 0xE0000000#32 ≤ 0xFFFFFFFF#32 ∧ 0x7FFFFFFF#32 < 0x80000000#32
      ∧ (0xC0000000#32 ≤ 0xC0000000#32 ∧ 0xC0000000#32 < 0xE0000000#32)
      ∧ (0xC0000000#32 ≤ 0xDFFFFFFF#32 ∧ 0xDFFFFFFF#32 < 0xE0000000#32)
      ∧ 0x1FFFFFFF#32 < 0x20000000#32 := by decide

theorem witness_ReturnFromException : sup.slot = none ∧ sup.md = true := by decide

theorem witness_TrapThenReturn : usr.srListed ∧ inSlot.srListed :=
  ⟨by unfold State.srListed; decide, by unfold State.srListed; decide⟩

theorem witness_FpuFormsRefused :
    sup.fd = false ∧ sup.double = false ∧ dbl.fd = false ∧ dbl.double = true ∧ (0xF : FReg).getLsbD 0 = true
      ∧ (1 : FReg).getLsbD 0 = true ∧ rm2.fd = false ∧ rm2.cfg.fpnum = .ieee ∧ rm2.rm = 2 ∧ rm2.double = false
      ∧ ({ sup with fpscr := 3 } : State).rm = 3 ∧ ({ sup with fpscr := 0x00080002 } : State).rm = 2
      ∧ ({ sup with fpscr := 0x00080002 } : State).double = true ∧ (14 : FReg).getLsbD 0 = false := by decide

theorem witness_ShiftResults :
    (0x7FFFFFFF#32).msb = false ∧ (0x80000000#32).msb = true ∧ (0x80000000#32).toNat % 32 = 0
      ∧ (0xFFFFFFE0#32).msb = true ∧ (0xFFFFFFE0#32).toNat % 32 = 0 ∧ (0x80000001#32).msb = true
      ∧ (0x80000001#32).toNat % 32 ≠ 0 ∧ (0xFFFFFFFF#32).msb = true ∧ (0xFFFFFFFF#32).toNat % 32 ≠ 0 := by decide

/-- The partial remainders -7 and 6 of a division by 7, the ends of the range. -/
theorem witness_DividePartialRemainder :
    let low := two { sup with sr := 0x40000100 } 0xFFFFFFF9 7
    let high := two sup 6 7
    low.m = false ∧ low.partialRemainder 1 = -7 ∧ high.m = false ∧ high.partialRemainder 1 = 6
      ∧ (7 : Int) = (low.r 2).toNat ∧ (7 : Int) = (high.r 2).toNat := by decide

theorem witness_MacLongResult :
    let s := two sup 0x2000 0x2004
    s.read .l (s.r 1) = .ok ⟨0, s⟩ ∧ s.read .l (if (2 : Reg) = 1 then s.r 1 + 4 else s.r 2) = .ok ⟨0, s⟩
      ∧ s.read .l (if (1 : Reg) = 1 then s.r 1 + 4 else s.r 1) = .ok ⟨0, s⟩ ∧ s.satS = false
      ∧ ({ s with sr := 0x40000002 } : State).satS = true := ⟨rfl, rfl, rfl, by decide, by decide⟩

theorem witness_MacWordResult :
    let s := poke (two { sup with sr := 0x40000002, macl := 0x7FFFFFFE } 0x2000 0x2002) 0x2000 [1, 0, 1, 0]
    s.read .w (s.r 1) = .ok ⟨1, s⟩ ∧ s.read .w (if (2 : Reg) = 1 then s.r 1 + 2 else s.r 2) = .ok ⟨1, s⟩
      ∧ s.read .w (if (1 : Reg) = 1 then s.r 1 + 2 else s.r 1) = .ok ⟨1, s⟩
      ∧ s.satS = true ∧ -2 ^ 31 ≤ s.macl.toInt + 1 * 1 ∧ s.macl.toInt + 1 * 1 < 2 ^ 31
      ∧ sup.satS = false := ⟨rfl, rfl, rfl, by decide, by decide, by decide, by decide⟩

theorem witness_FlagAndHintResults : sup.md = true := by decide

theorem witness_SpecialRegisterReads : sup.md = true ∧ sup.fd = false := by decide

theorem witness_SpecialRegisterWrites : sup.md = true ∧ sup.fd = false := by decide

theorem witness_PushResults :
    Memory.wf sup.mem = true ∧ sup.md = true ∧ sup.fd = false
      ∧ flat.check .write .l (flat.r 1 - BitVec.ofNat 32 Size.l.bytes) = .ok (.mem 0xFFFFFFFC)
      ∧ flat.check .write .w (flat.r 1 - BitVec.ofNat 32 Size.w.bytes) = .ok (.mem 0xFFFFFFFE)
      ∧ flat.check .write .b (flat.r 1 - BitVec.ofNat 32 Size.b.bytes) = .ok (.mem 0xFFFFFFFF)
      ∧ handled.check .write .l (handled.r 1 - BitVec.ofNat 32 Size.l.bytes) = .ok (.special 0xFFFFFFFC) :=
  ⟨rfl, by decide, by decide, rfl, rfl, rfl, rfl⟩

theorem witness_PopResults :
    (flat.setR 1 0xFFFFFFFC).check .read .l ((flat.setR 1 0xFFFFFFFC).r 1) = .ok (.mem 0xFFFFFFFC) ∧ flat.md = true
      ∧ flat.fd = false
      ∧ (handled.setR 1 0xE0000000).check .read .l ((handled.setR 1 0xE0000000).r 1) = .ok (.special 0xE0000000) :=
  ⟨rfl, by decide, by decide, rfl⟩

theorem witness_StoreResults :
    Memory.wf flat.mem = true ∧ flat.check .write .b 0xFFFFFFFF = .ok (.mem 0xFFFFFFFF)
      ∧ flat.check .write .w 0xFFFFFFFE = .ok (.mem 0xFFFFFFFE) ∧ flat.check .write .l 0xFFFFFFFC = .ok (.mem 0xFFFFFFFC)
      ∧ Memory.wf handled.mem = true ∧ handled.check .write .b 0xFFFFFFFF = .ok (.special 0xFFFFFFFF) :=
  ⟨rfl, rfl, rfl, rfl, rfl, rfl⟩

theorem witness_LoadResults :
    flat.check .read .b 0xFFFFFFFF = .ok (.mem 0xFFFFFFFF) ∧ flat.check .read .w 0xFFFFFFFE = .ok (.mem 0xFFFFFFFE)
      ∧ flat.check .read .l 0xFFFFFFFC = .ok (.mem 0xFFFFFFFC) ∧ flat.check .read .b (flat.r 1) = .ok (.mem 0)
      ∧ flat.check .read .w (flat.r 1) = .ok (.mem 0) ∧ flat.check .read .l (flat.r 1) = .ok (.mem 0)
      ∧ handled.check .read .l 0xE0000000 = .ok (.special 0xE0000000) :=
  ⟨rfl, rfl, rfl, rfl, rfl, rfl, rfl⟩

theorem witness_ReadModifyWriteResults :
    let s := flat.setR 0 0xFFFFFFFC
    Memory.wf s.mem = true ∧ s.check .write .b (s.r 1) = .ok (.mem 0) ∧ s.check .read .b (s.r 1) = .ok (.mem 0)
      ∧ s.check .write .b (s.gbr + s.r 0) = .ok (.mem 0xFFFFFFFC)
      ∧ s.check .read .b (s.gbr + s.r 0) = .ok (.mem 0xFFFFFFFC)
      ∧ s.check .write .l (s.r 0) = .ok (.mem 0xFFFFFFFC) ∧ s.check .read .l (s.r 0) = .ok (.mem 0xFFFFFFFC)
      ∧ s.valueAt s.cfg.endianLocal .l (.mem 0xFFFFFFFC) = s.r 2
      ∧ s.valueAt s.cfg.endianLocal .l (.mem 0xFFFFFFFC) ≠ s.r 0 :=
  ⟨rfl, rfl, rfl, rfl, rfl, rfl, rfl, rfl, by decide⟩

theorem witness_NarrowLoadAfterStore :
    Memory.wf sup.mem = true ∧ 0xFFFFFFFC + 4 ≤ 2 ^ 32 ∧ sup.cfg.endianLocal = .little
      ∧ ({ sup.cfg with endianLocal := .big } : Config).endianLocal = .big ∧ 3 < 4 := by decide

theorem witness_BranchResults : sup.slot = none := rfl

theorem witness_PcRelativeResults :
    sup.slot = none ∧ sup.check .read .w (sup.pc + 4 + 2 * (0xFF#8).setWidth 32) = .ok (.mem 0x1202)
      ∧ sup.check .read .l (((sup.pc + 4) &&& 0xFFFFFFFC) + 4 * (0xFF#8).setWidth 32) = .ok (.mem 0x1400) :=
  ⟨rfl, rfl, rfl⟩

theorem witness_FmovResults :
    sup.fd = false ∧ Memory.wf sup.mem = true ∧ sup.sz = false ∧ pairs.sz = true ∧ pairs.fd = false
      ∧ sup.check .read .l (sup.r 1) = .ok (.mem 0) ∧ sup.check .write .l (sup.r 1) = .ok (.mem 0)
      ∧ pairs.checkPair .read (pairs.r 1) = .ok (.mem 0, .mem 4)
      ∧ pairs.checkPair .write (pairs.r 1) = .ok (.mem 0, .mem 4)
      ∧ (two pairs 8 0).checkPair .write ((two pairs 8 0).r 1 - 8) = .ok (.mem 0, .mem 4)
      ∧ handled.checkPair .write 0xFFFFFFF8 = .ok (.special 0xFFFFFFF8, .special 0xFFFFFFFC) :=
  ⟨by decide, rfl, by decide, by decide, by decide, rfl, rfl, rfl, rfl, rfl, rfl⟩

theorem witness_FpuBitResults : sup.fd = false ∧ sup.double = false := by decide

theorem witness_FpuArithmeticResults :
    sup.fd = false ∧ sup.double = false ∧ dbl.fd = false ∧ dbl.double = true ∧ (14 : FReg).getLsbD 0 = false
      ∧ sup.RoundingRuns ∧ dbl.RoundingRuns ∧ (otherFp rm2).RoundingRuns ∧ (otherFp rm2).fd = false
      ∧ (otherFp rm2).double = false :=
  ⟨by decide, by decide, by decide, by decide, by decide, fun _ => .inl (by decide), fun _ => .inl (by decide),
    nofun, by decide, by decide⟩

theorem witness_FpExactOperations :
    (FpVal.fin true 3 0).toRat = some (-3) ∧ (FpVal.fin false 1 1).toRat = some 2 ∧ sup.cfg.fpnum = .ieee
      ∧ ({ sup with fpscr := 0x00040000 } : State).dn = true
      ∧ ({ sup with fpscr := 0x00040000 } : State).cfg.fpnum = sup.cfg.fpnum
      ∧ ({ sup with fpscr := 0x00040000 } : State).rm = sup.rm
      ∧ (sup.fpIn fmtSingle ((0x80000000#32).setWidth 64)).toRat = some 0 := by
  have h : sup.fpIn fmtSingle ((0x80000000#32).setWidth 64) = .fin true 0 (-149) := by decide
  refine ⟨?_, ?_, rfl, by decide, rfl, by decide, ?_⟩
  · norm_num [FpVal.toRat]
  · norm_num [FpVal.toRat]
  · rw [h]; norm_num [FpVal.toRat]

/-- The smallest and the largest normal number of both formats. -/
theorem witness_FpRoundExact :
    fpExactNormal fmtSingle (.fin false 1 (-126)) = true ∧ fpExactNormal fmtSingle (.fin true (2 ^ 24 - 1) 104) = true
      ∧ fpExactNormal fmtDouble (.fin false 1 (-1022)) = true
      ∧ fpExactNormal fmtDouble (.fin true (2 ^ 53 - 1) 971) = true := by decide +kernel

/-- 1 + 2 and the root of 4 in singles, 1.0 between the formats, the integer 3, with RM 0 and RM 1, and FPNUM_IEEE. -/
theorem witness_FpuAgreedResult :
    sup.rm = 0 ∧ ({ sup with fpscr := 1 } : State).rm = 1 ∧ sup.cfg.fpnum = .ieee
      ∧ fpPlain fmtSingle (0x3F800000#64).toNat = true ∧ fpPlain fmtSingle (0x40000000#64).toNat = true
      ∧ fpExactNormal fmtSingle (fpAdd (sup.fpIn fmtSingle 0x3F800000) (sup.fpIn fmtSingle 0x40000000)) = true
      ∧ fpPlain fmtSingle (0x40800000#64).toNat = true
      ∧ fpExactNormal fmtSingle (fpSqrt fmtSingle (sup.fpIn fmtSingle 0x40800000)) = true
      ∧ fpExactNormal fmtSingle (fpOfInt 3) = true ∧ fpPlain fmtDouble (0x3FF0000000000000#64).toNat = true
      ∧ fpExactNormal fmtSingle (sup.fpIn fmtDouble 0x3FF0000000000000) = true
      ∧ fpPlain fmtSingle (0x3F800000#32).toNat = true
      ∧ fpExactNormal fmtDouble (sup.fpIn fmtSingle ((0x3F800000#32).setWidth 64)) = true
      ∧ fpIntExact (sup.fpIn fmtSingle 0x3F800000) = true := by
  decide +kernel

/-- The smallest denormal and the largest finite number, and the zeros of both signs. -/
theorem witness_FpRounding :
    fpUnpack fmtSingle false 1 = .fin false 1 (-149) ∧ fpUnpack fmtSingle true 0x7F7FFFFF = .fin false (2 ^ 24 - 1) 104
      ∧ fpUnpack fmtDouble false 1 = .fin false 1 (-1074) ∧ fpUnpack fmtSingle false 0 = .fin false 0 (-149)
      ∧ fpUnpack fmtSingle true 0x80000000 = .fin true 0 (-149) ∧ fpUnpack fmtSingle false 0xBF800000 = .fin true (2 ^ 23) (-23) := by
  decide +kernel

theorem witness_SuperOpResults : sup.slot = none ∧ (2 : Reg) ≠ 1 := by decide

end Sys2Proof.Tests
end

section
/-! SUPPORT. What the settled statements share, one rule each: the decoder read nibble by nibble, the bits of SR
after a write, and what an instruction that ends in `done` leaves as it was. -/

namespace Sys2Proof.Machine

/-! ### The decoder by nibbles -/

open BitVec (extractLsb'_append_eq_of_le extractLsb'_append_eq_left extractLsb'_append_eq_right)

@[simp] theorem nib3_word4 (a b c d : Nibble) : nib3 (word4 a b c d) = a :=
  (extractLsb'_append_eq_of_le (by decide)).trans
    ((extractLsb'_append_eq_of_le (by decide)).trans extractLsb'_append_eq_left)

@[simp] theorem nib2_word4 (a b c d : Nibble) : nib2 (word4 a b c d) = b :=
  (extractLsb'_append_eq_of_le (by decide)).trans
    ((extractLsb'_append_eq_of_le (by decide)).trans extractLsb'_append_eq_right)

@[simp] theorem nib1_word4 (a b c d : Nibble) : nib1 (word4 a b c d) = c :=
  (extractLsb'_append_eq_of_le (by decide)).trans extractLsb'_append_eq_right

@[simp] theorem nib0_word4 (a b c d : Nibble) : nib0 (word4 a b c d) = d := extractLsb'_append_eq_right

theorem reads_group0 {b c d : Nibble} {i : Instr} (h : decodeGroup0 b c d = .ok i) : Reads 0x0 b c d i := by
  simpa [Reads, decode] using h

theorem reads_group2 {b c d : Nibble} {i : Instr} (h : decodeGroup2 b c d = .ok i) : Reads 0x2 b c d i := by
  simpa [Reads, decode] using h

theorem reads_group3 {b c d : Nibble} {i : Instr} (h : decodeGroup3 b c d = .ok i) : Reads 0x3 b c d i := by
  simpa [Reads, decode] using h

/-! ### T, Q and M after a write -/

@[simp] theorem State.t_advance (s : State) : s.advance.t = s.t := by simp [State.t]
@[simp] theorem State.q_advance (s : State) : s.advance.q = s.q := by simp [State.q]
@[simp] theorem State.m_advance (s : State) : s.advance.m = s.m := by simp [State.m]

@[simp] theorem State.q_setQ (s : State) (b : Bool) : (s.setQ b).q = b := by simp [State.q]
@[simp] theorem State.q_setM (s : State) (b : Bool) : (s.setM b).q = s.q := by simp [State.q]
@[simp] theorem State.q_setT (s : State) (b : Bool) : (s.setT b).q = s.q := by simp [State.q]
@[simp] theorem State.m_setM (s : State) (b : Bool) : (s.setM b).m = b := by simp [State.m]
@[simp] theorem State.m_setQ (s : State) (b : Bool) : (s.setQ b).m = s.m := by simp [State.m]
@[simp] theorem State.m_setT (s : State) (b : Bool) : (s.setT b).m = s.m := by simp [State.m]

/-! ### The PC after an instruction -/

theorem State.nextPc_of_none {s : State} (h : s.slot = none) : s.nextPc = s.pc + 2 := by
  unfold State.nextPc; rw [h]

theorem State.nextPc_of_some {s : State} {t : Slot} (h : s.slot = some t) : s.nextPc = t.target := by
  unfold State.nextPc; rw [h]

theorem State.nextPc_congr {s u : State} (hpc : u.pc = s.pc) (hslot : u.slot = s.slot) : u.nextPc = s.nextPc := by
  cases h : s.slot with
  | none => rw [State.nextPc_of_none (hslot.trans h), State.nextPc_of_none h, hpc]
  | some t => rw [State.nextPc_of_some (hslot.trans h), State.nextPc_of_some h]

theorem State.pc_advance (s : State) : s.advance.pc = s.nextPc := by
  cases h : s.slot with
  | none => rw [State.advance_of_none s h, State.nextPc_of_none h]
  | some t => rw [State.advance_of_some s h, State.nextPc_of_some h]

/-! ### Instructions that end in `done` -/

theorem completes_of_done {i : Instr} {s u : State} {P : State → Prop} (h : exec i s = done u) (hP : P u.advance) :
    Completes i s P := ⟨u.advance, h, hP⟩

/-- `Frame` before the PC has moved on: `u` is `s` but for the listed registers and SR bits, the accumulator, PR, the
FPU and memory. The writes of an instruction keep it one by one, and `State.advance` turns it into `Frame`. -/
structure KeepsExcept (s u : State) (regs : List Reg) (bits : List Nat) : Prop where
  regs : SameRegs s u regs
  sr : SameSr s u bits
  control : SameControl s u
  hidden : SameHidden s u
  pc : u.pc = s.pc
  slot : u.slot = s.slot

namespace KeepsExcept

variable {s u : State} {regs : List Reg} {bits : List Nat}

theorem refl (s : State) (regs : List Reg) (bits : List Nat) : KeepsExcept s s regs bits where
  regs := ⟨fun _ _ => rfl, fun _ => rfl⟩
  sr := fun _ _ => rfl
  control := ⟨rfl, rfl, rfl, rfl, rfl, rfl⟩
  hidden := ⟨rfl, rfl, rfl, rfl, rfl⟩
  pc := rfl
  slot := rfl

theorem setR (h : KeepsExcept s u regs bits) {n : Reg} (v : Word) (hn : n ∈ regs) :
    KeepsExcept s (u.setR n v) regs bits := by
  refine ⟨⟨fun j hj => ?_, fun k => ?_⟩, h.sr, ?_, ?_, h.pc, h.slot⟩
  · have hne : j ≠ n := fun e => hj (e ▸ hn)
    exact (State.r_setR_ne hne).trans (h.regs.r j hj)
  · exact (State.other_setR u n v k).trans (h.regs.other k)
  · exact ⟨h.control.gbr, h.control.vbr, h.control.ssr, h.control.spc, h.control.sgr, h.control.dbr⟩
  · exact ⟨h.hidden.irqs, h.hidden.asleep, h.hidden.special, h.hidden.freeCtr, h.hidden.cfg⟩

/-- Writing one bit of SR below the mode and bank bits (R43, R44, R46, R47). -/
theorem setSrBit (h : KeepsExcept s u regs bits) {k : Nat} (b : Bool) (hk : k ∈ bits) (hlow : k < 29) :
    KeepsExcept s { u with sr := setBit u.sr k b } regs bits := by
  have honB : ({ u with sr := setBit u.sr k b } : State).onB = u.onB := bankIsB_setBit hlow
  refine ⟨⟨fun j hj => ?_, fun j => ?_⟩, fun i hi => ?_, ?_, ?_, h.pc, h.slot⟩
  · exact (State.r_congr (by rfl) (by rfl) (by rfl) honB j).trans (h.regs.r j hj)
  · exact (State.other_congr (by rfl) (by rfl) honB j).trans (h.regs.other j)
  · have hne : i ≠ k := fun e => hi (e ▸ hk)
    exact (getLsbD_setBit_ne (by omega) hne).trans (h.sr i hi)
  · exact ⟨h.control.gbr, h.control.vbr, h.control.ssr, h.control.spc, h.control.sgr, h.control.dbr⟩
  · exact ⟨h.hidden.irqs, h.hidden.asleep, h.hidden.special, h.hidden.freeCtr, h.hidden.cfg⟩

theorem setT (h : KeepsExcept s u regs bits) (b : Bool) (hb : 0 ∈ bits) : KeepsExcept s (u.setT b) regs bits :=
  h.setSrBit b hb (by decide)

theorem setQ (h : KeepsExcept s u regs bits) (b : Bool) (hb : 8 ∈ bits) : KeepsExcept s (u.setQ b) regs bits :=
  h.setSrBit b hb (by decide)

theorem setM (h : KeepsExcept s u regs bits) (b : Bool) (hb : 9 ∈ bits) : KeepsExcept s (u.setM b) regs bits :=
  h.setSrBit b hb (by decide)

theorem frame_advance (h : KeepsExcept s u regs bits) : Frame s u.advance regs bits where
  regs := ⟨fun j hj => by simpa using h.regs.r j hj, fun k => by simpa using h.regs.other k⟩
  sr := fun i hi => by simpa using h.sr i hi
  control := by
    obtain ⟨hgbr, hvbr, hssr, hspc, hsgr, hdbr⟩ := h.control
    constructor <;> simpa
  hidden := by
    obtain ⟨hirqs, hasleep, hspecial, hfree, hcfg⟩ := h.hidden
    constructor <;> simpa
  moved := ⟨(State.pc_advance u).trans (State.nextPc_congr h.pc h.slot), State.advance_slot u⟩

end KeepsExcept

theorem SameAcc.advance {s u : State} (h : SameAcc s u) : SameAcc s u.advance := by
  obtain ⟨hmach, hmacl, hpr⟩ := h
  constructor <;> simpa

theorem SameFpu.advance {s u : State} (h : SameFpu s u) : SameFpu s u.advance := by
  obtain ⟨hfpscr, hfpul, hfb0, hfb1⟩ := h
  constructor <;> simpa

theorem SameMem.advance {s u : State} (h : SameMem s u) : SameMem s u.advance := by
  obtain ⟨hbyte, hstored⟩ := h
  constructor <;> simpa

theorem KeepsExcept.frame_and_rest_advance {s u : State} {regs : List Reg} {bits : List Nat}
    (h : KeepsExcept s u regs bits) (hacc : SameAcc s u) (hfpu : SameFpu s u) (hmem : SameMem s u) :
    Frame s u.advance regs bits ∧ SameAcc s u.advance ∧ SameFpu s u.advance ∧ SameMem s u.advance :=
  ⟨h.frame_advance, hacc.advance, hfpu.advance, hmem.advance⟩

end Sys2Proof.Machine
end

section
/-! SUPPORT. The statement on `DIV0U`, `DIV0S` and `DIV1` (O37), on one rule for the step of the division. -/

namespace Sys2Proof.Machine

theorem shiftIn_eq_shiftConcat (a : Word) (t : Bool) : (a <<< 1) ||| wordOfBool t = a.shiftConcat t := by
  ext i hi
  cases i with
  | zero => simp [wordOfBool]
  | succ i => simp [wordOfBool]

/-- The partial remainder with T shifted in, as a number (R224). -/
theorem shiftIn_eq_ofNat (a : Word) (t : Bool) :
    (a <<< 1) ||| wordOfBool t = BitVec.ofNat 32 ((2 * a.toNat + t.toNat) % 2 ^ 32) := by
  apply BitVec.eq_of_toNat_eq
  rw [shiftIn_eq_shiftConcat, BitVec.toNat_shiftConcat, BitVec.toNat_ofNat, Nat.mod_mod, Nat.shiftLeft_eq,
    Nat.mul_comm, Nat.pow_one]

theorem ult_sub_eq_borrow (x b : Word) : x.ult (x - b) = decide (x.toNat < b.toNat) := by
  rw [BitVec.ult_eq_decide, decide_eq_decide]
  bv_omega

theorem add_ult_eq_carry (x b : Word) : (x + b).ult x = decide (2 ^ 32 ≤ x.toNat + b.toNat) := by
  rw [BitVec.ult_eq_decide, decide_eq_decide]
  bv_omega

/-- The exact borrow of the subtraction that `DIV1` makes when Q = M, or the exact carry of the addition that it makes
otherwise, from the shifted partial remainder and the divisor (R224). -/
def divCarry (q m : Bool) (x b : Nat) : Bool := if q = m then decide (x < b) else decide (2 ^ 32 ≤ x + b)

/-- One step of the division in exact numbers: `divStep` reads its borrow and carry off the wrapped result. -/
theorem divStep_eq (a b : Word) (q m t : Bool) {x : Nat} (hx : x = (2 * a.toNat + t.toNat) % 2 ^ 32) :
    divStep a b q m t =
      { r := if q = m then BitVec.ofNat 32 x - b else BitVec.ofNat 32 x + b
        q := (a.msb ^^ divCarry q m x b.toNat) ^^ m
        t := !(a.msb ^^ divCarry q m x b.toNat) } := by
  have hnat : (BitVec.ofNat 32 x).toNat = x := by
    rw [BitVec.toNat_ofNat, hx, Nat.mod_mod]
  rw [divStep, shiftIn_eq_ofNat, ← hx]
  by_cases hqm : q = m
  · simp [hqm, divCarry, ult_sub_eq_borrow, hnat]
  · simp [hqm, divCarry, add_ult_eq_carry, hnat]

/-- Settles O37: the frames by the writes one by one, the numbers of `DIV1` by `divStep_eq`. -/
theorem divideStepResults : Obligations.DivideStepResults := by
  intro s n m
  refine ⟨reads_group0 rfl, reads_group2 rfl, reads_group3 rfl, ?div0u, ?div0s, ?div1⟩
  case div0u =>
    refine completes_of_done (exec_div0u s) ⟨by simp, by simp, by simp, KeepsExcept.frame_and_rest_advance ?_
      ⟨rfl, rfl, rfl⟩ ⟨rfl, rfl, rfl, rfl⟩ ⟨fun _ => rfl, rfl⟩⟩
    exact (((KeepsExcept.refl s _ _).setM _ (by simp)).setQ _ (by simp)).setT _ (by simp)
  case div0s =>
    refine completes_of_done (exec_div0s s n m) ⟨by simp, by simp, by simp, KeepsExcept.frame_and_rest_advance ?_
      ⟨rfl, rfl, rfl⟩ ⟨rfl, rfl, rfl, rfl⟩ ⟨fun _ => rfl, rfl⟩⟩
    exact (((KeepsExcept.refl s _ _).setQ _ (by simp)).setM _ (by simp)).setT _ (by simp)
  case div1 =>
    refine completes_of_done (exec_div1 s n m) ?_
    rw [divStep_eq _ _ _ _ _ rfl]
    refine ⟨by simp, by simp [divCarry], by simp [divCarry], KeepsExcept.frame_and_rest_advance ?_
      ⟨rfl, rfl, rfl⟩ ⟨rfl, rfl, rfl, rfl⟩ ⟨fun _ => rfl, rfl⟩⟩
    exact (((KeepsExcept.refl s _ _).setR _ (by simp)).setQ _ (by simp)).setT _ (by simp)

end Sys2Proof.Machine
end

section
/-! SUPPORT. The statement on the multiplies and `CLRMAC` (O39): the exact product of two extended operands, and the
two halves of a 64-bit product as numbers. -/

namespace Sys2Proof.Machine

/-! ### Exact products -/

/-- Extended with zeros to twice the width, two operands multiply without wrapping. -/
theorem toNat_mul_setWidth {w v : Nat} (h : w * 2 ≤ v) (a b : BitVec w) :
    (a.setWidth v * b.setWidth v).toNat = a.toNat * b.toNat := by
  have ha : (a.setWidth v).toNat = a.toNat := BitVec.toNat_setWidth_of_le (by omega)
  have hb : (b.setWidth v).toNat = b.toNat := BitVec.toNat_setWidth_of_le (by omega)
  have hlt : a.toNat * b.toNat < 2 ^ v :=
    BitVec.toNat_mul_toNat_lt.trans_le (Nat.pow_le_pow_right (by decide) h)
  rw [BitVec.toNat_mul, ha, hb, Nat.mod_eq_of_lt hlt]

/-- Extended with their signs to twice the width, two operands multiply without wrapping. -/
theorem toInt_mul_signExtend {w v : Nat} (hw : 0 < w) (h : w * 2 ≤ v) (a b : BitVec w) :
    (a.signExtend v * b.signExtend v).toInt = a.toInt * b.toInt := by
  have hlow : -(2 ^ (w * 2 - 2)) ≤ a.toInt * b.toInt := BitVec.le_toInt_mul_toInt
  have hhigh : a.toInt * b.toInt ≤ 2 ^ (w * 2 - 2) := BitVec.toInt_mul_toInt_le
  have hpow : (2 : Int) ^ (w * 2 - 2) * 2 < 2 ^ v := by
    rw [← pow_succ]
    exact pow_lt_pow_right₀ (by decide) (by omega)
  rw [BitVec.toInt_mul, BitVec.toInt_signExtend_of_le (by omega), BitVec.toInt_signExtend_of_le (by omega)]
  apply Int.bmod_eq_of_le_mul_two <;> push_cast <;> omega

/-! ### The halves of a 64-bit value -/

theorem toNat_halves (p : BitVec 64) :
    2 ^ 32 * (p.extractLsb' 32 32).toNat + (p.extractLsb' 0 32).toNat = p.toNat := by
  have := p.isLt
  simp only [BitVec.extractLsb'_toNat, Nat.shiftRight_eq_div_pow]
  omega

theorem toInt_halves (p : BitVec 64) :
    2 ^ 32 * (p.extractLsb' 32 32).toInt + (p.extractLsb' 0 32).toNat = p.toInt := by
  have hp : p.extractLsb' 32 32 ++ p.extractLsb' 0 32 = p := BitVec.extractLsb'_append_extractLsb' (w := 32) (len := 32)
  have happend := BitVec.toInt_append (x := p.extractLsb' 32 32) (y := p.extractLsb' 0 32)
  exact happend.symm.trans (congrArg BitVec.toInt hp)

/-! ### The accumulator -/

theorem keepsExcept_acc (s : State) (hi lo : Word) : KeepsExcept s { s with mach := hi, macl := lo } [] [] :=
  ⟨⟨fun _ _ => rfl, fun _ => rfl⟩, fun _ _ => rfl, ⟨rfl, rfl, rfl, rfl, rfl, rfl⟩,
    ⟨rfl, rfl, rfl, rfl, rfl⟩, rfl, rfl⟩

/-- An instruction whose one write is to the accumulator (R60). -/
theorem macResult_of_done {i : Instr} {s : State} {hi lo : Word}
    (h : exec i s = done { s with mach := hi, macl := lo }) : MacResult i s hi lo :=
  completes_of_done h ⟨by simp, by simp, by simp, (keepsExcept_acc s hi lo).frame_advance,
    SameFpu.advance ⟨rfl, rfl, rfl, rfl⟩, SameMem.advance ⟨fun _ => rfl, rfl⟩⟩

theorem zextHalf_eq_ofNat (v : Word) : zextHalf v = BitVec.ofNat 32 (v.toNat % 2 ^ 16) := by
  apply BitVec.eq_of_toNat_eq
  simp [zextHalf]

/-- Settles O39: `MUL.L` and `MULU.W` as numbers modulo 2^32; the others are exact, for their operands are extended
to twice their width before they are multiplied. -/
theorem multiplyResults : Obligations.MultiplyResults := by
  intro s n m
  refine ⟨reads_group0 rfl, reads_group2 rfl, reads_group2 rfl, reads_group3 rfl, reads_group3 rfl, reads_group0 rfl,
    ?mulL, ?muluW, ?mulsW, ?dmuluL, ?dmulsL, macResult_of_done (exec_clrmac s)⟩
  case mulL =>
    apply macResult_of_done
    rw [BitVec.ofNat_mul, BitVec.ofNat_toNat, BitVec.ofNat_toNat, BitVec.setWidth_eq, BitVec.setWidth_eq]
    exact exec_mulL s n m
  case muluW =>
    apply macResult_of_done
    rw [BitVec.ofNat_mul, ← zextHalf_eq_ofNat, ← zextHalf_eq_ofNat]
    exact exec_muluW s n m
  case mulsW =>
    refine ⟨_, macResult_of_done (exec_mulsW s n m), ?_⟩
    have hlow (v : Word) : v.extractLsb' 0 16 = v.setWidth 16 := (BitVec.setWidth_eq_extractLsb' (by decide)).symm
    rw [hlow, hlow]
    exact toInt_mul_signExtend (by decide) (by decide) _ _
  case dmuluL =>
    refine ⟨_, _, macResult_of_done (exec_dmuluL s n m), ?_⟩
    rw [toNat_halves, toNat_mul_setWidth (by decide)]
  case dmulsL =>
    refine ⟨_, _, macResult_of_done (exec_dmulsL s n m), ?_⟩
    rw [toInt_halves, toInt_mul_signExtend (by decide) (by decide)]

end Sys2Proof.Machine
end

section
/-! SUPPORT. The statement on the compares and tests (O35): an instruction whose one write is to T, and the byte
lanes of `CMPSTR` as a relation on bytes. -/

namespace Sys2Proof.Machine

/-! ### The decoder of groups 4, 8 and C -/

theorem reads_group4 {b c d : Nibble} {i : Instr} (h : decodeGroup4 b c d = .ok i) : Reads 0x4 b c d i := by
  simpa [Reads, decode] using h

theorem reads_group8 {b c d : Nibble} {i : Instr} (h : decodeGroup8 b c d 0 = .ok i) : Reads 0x8 b c d i := by
  simpa [Reads, decode] using h

theorem reads_groupC {b c d : Nibble} {i : Instr} (h : decodeGroupC b c d = .ok i) : Reads 0xC b c d i := by
  simpa [Reads, decode] using h

/-- An 8-bit immediate is its two nibbles. -/
theorem append_nibbles (imm : BitVec 8) : imm.extractLsb' 4 4 ++ imm.extractLsb' 0 4 = imm :=
  BitVec.extractLsb'_append_extractLsb' (w := 4) (len := 4)

/-! ### An instruction whose one write is to T -/

theorem writesFlag_setT_advance (s : State) (b : Bool) : WritesFlag s (s.setT b).advance b where
  flag := by simp
  frame := ((KeepsExcept.refl s [] [0]).setT b (by simp)).frame_advance
  acc := SameAcc.advance ⟨rfl, rfl, rfl⟩
  fpu := SameFpu.advance ⟨rfl, rfl, rfl, rfl⟩
  mem := SameMem.advance ⟨fun _ => rfl, rfl⟩

/-- The bit `b` that the model writes to T may be given as any equal `r` (R43). -/
theorem flagResult_of_done {i : Instr} {s : State} {b r : Bool} (h : exec i s = done (s.setT b)) (hb : b = r) :
    FlagResult i s r :=
  completes_of_done h (hb ▸ writesFlag_setT_advance s b)

/-! ### The relations -/

theorem lane_xor_eq_zero_iff (a b : Word) (k : Nat) :
    (a ^^^ b).extractLsb' k 8 = 0 ↔ a.extractLsb' k 8 = b.extractLsb' k 8 := by
  rw [BitVec.extractLsb'_xor]
  exact BitVec.xor_eq_zero_iff

/-- The lanes where the exclusive or is zero are those that hold equal bytes (R214). -/
theorem someByteEqual_iff (a b : Word) :
    someByteEqual a b = true ↔ ∃ k : Fin 4, a.extractLsb' (8 * k) 8 = b.extractLsb' (8 * k) 8 := by
  simp only [someByteEqual, Bool.or_eq_true, beq_iff_eq, lane_xor_eq_zero_iff]
  constructor
  · rintro (((h | h) | h) | h)
    · exact ⟨3, h⟩
    · exact ⟨2, h⟩
    · exact ⟨1, h⟩
    · exact ⟨0, h⟩
  · rintro ⟨k, h⟩
    match k with
    | 0 => exact .inr h
    | 1 => exact .inl (.inr h)
    | 2 => exact .inl (.inl (.inr h))
    | 3 => exact .inl (.inl (.inl h))

/-- Extended with its sign, an immediate equals a word when the two are the same signed number (R329). -/
theorem eq_signExtend_iff_toInt_eq (a : Word) (imm : BitVec 8) : a = imm.signExtend 32 ↔ a.toInt = imm.toInt := by
  rw [← BitVec.toInt_inj, BitVec.toInt_signExtend_of_le (by decide)]

/-- Settles O35: each instruction writes T alone, so what is left is the bit as a relation. The orders are the
definitions of the bit vector's comparisons on numbers. -/
theorem compareResults : Obligations.CompareResults := by
  intro s n m imm
  refine ⟨reads_group3 rfl, reads_group8 ?readsCmpeqI, reads_group3 rfl, reads_group3 rfl, reads_group3 rfl,
    reads_group3 rfl, reads_group4 rfl, reads_group4 rfl, reads_group2 rfl, reads_group2 rfl,
    reads_groupC ?readsTstI,
    flagResult_of_done (exec_cmpeqR s n m) (Bool.beq_eq_decide_eq _ _),
    flagResult_of_done (exec_cmpeqI s imm) ?cmpeqI,
    flagResult_of_done (exec_cmphs s n m) BitVec.ule_eq_decide,
    flagResult_of_done (exec_cmphi s n m) BitVec.ult_eq_decide,
    flagResult_of_done (exec_cmpge s n m) BitVec.sle_eq_decide,
    flagResult_of_done (exec_cmpgt s n m) BitVec.slt_eq_decide,
    flagResult_of_done (exec_cmppz s n) BitVec.sle_eq_decide,
    flagResult_of_done (exec_cmppl s n) BitVec.slt_eq_decide,
    flagResult_of_done (exec_cmpstr s n m) ?cmpstr,
    flagResult_of_done (exec_tstR s n m) (Bool.beq_eq_decide_eq _ _),
    flagResult_of_done (exec_tstI s imm) (Bool.beq_eq_decide_eq _ _)⟩
  case readsCmpeqI => exact congrArg (Except.ok ∘ Instr.cmpeqI) (append_nibbles imm)
  case readsTstI => exact congrArg (Except.ok ∘ Instr.tstI) (append_nibbles imm)
  case cmpeqI => rw [Bool.beq_eq_decide_eq, decide_eq_decide, eq_signExtend_iff_toInt_eq]
  case cmpstr => rw [Bool.eq_iff_iff, someByteEqual_iff, decide_eq_true_iff]

end Sys2Proof.Machine
end

section
/-! SUPPORT. The statement on carry, borrow and overflow (O36): an instruction whose writes are one register and T,
the unbounded integer that the wrapped result and its carry or borrow make up together, and the signed overflow. -/

namespace Sys2Proof.Machine

theorem reads_group6 {b c d : Nibble} {i : Instr} (h : decodeGroup6 b c d = .ok i) : Reads 0x6 b c d i := by
  simpa [Reads, decode] using h

/-! ### An instruction that writes one register and T -/

theorem writesRegT_setR_setT_advance (s : State) (n : Reg) (v : Word) (b : Bool) :
    WritesRegT s ((s.setR n v).setT b).advance n v b where
  value := by simp
  flag := by simp
  frame := (((KeepsExcept.refl s [n] [0]).setR v (by simp)).setT b (by simp)).frame_advance
  acc := SameAcc.advance ⟨rfl, rfl, rfl⟩
  fpu := SameFpu.advance ⟨rfl, rfl, rfl, rfl⟩
  mem := SameMem.advance ⟨fun _ => rfl, rfl⟩

theorem regTResult_of_done {i : Instr} {s : State} {n : Reg} {v : Word} {b r : Bool}
    (h : exec i s = done ((s.setR n v).setT b)) (hb : b = r) : RegTResult i s n v r :=
  completes_of_done h (hb ▸ writesRegT_setR_setT_advance s n v b)

/-! ### Carry and borrow -/

/-- The sum of two words and a carry is below 2^33, so its low word and one bit hold it whole (R233). -/
theorem toNat_addWithCarry (a b : Word) (c : Bool) :
    (BitVec.ofNat 32 (addWithCarry a b c)).toNat + 2 ^ 32 * (carryOf a b c).toNat = a.toNat + b.toNat + c.toNat := by
  have hlt : addWithCarry a b c < 2 * 2 ^ 32 := by
    have hc := c.toNat_le
    unfold addWithCarry
    omega
  change _ = addWithCarry a b c
  rw [BitVec.toNat_ofNat, carryOf]
  by_cases h : 2 ^ 32 ≤ addWithCarry a b c
  · rw [decide_eq_true h, Bool.toNat_true]
    omega
  · rw [decide_eq_false h, Bool.toNat_false]
    omega

/-- The difference of two words and a borrow is from -2^32 to 2^32 - 1, so the word it wraps to and one bit of weight
-2^32 hold it whole (R229, R316). -/
theorem toNat_subWithBorrow (a b : Word) (c : Bool) :
    ((BitVec.ofInt 32 (subWithBorrow a b c)).toNat : Int) - 2 ^ 32 * (borrowOf a b c).toNat
      = a.toNat - b.toNat - c.toNat := by
  have hbounds : -2 ^ 32 ≤ subWithBorrow a b c ∧ subWithBorrow a b c < 2 ^ 32 := by
    have hc := c.toNat_le
    unfold subWithBorrow
    omega
  obtain ⟨hge, hlt⟩ := hbounds
  change _ = subWithBorrow a b c
  rw [BitVec.toNat_ofInt, borrowOf]
  by_cases h : subWithBorrow a b c < 0
  · rw [decide_eq_true h, Bool.toNat_true]
    omega
  · rw [decide_eq_false h, Bool.toNat_false]
    omega

/-! ### Signed overflow -/

/-- An integer is not the signed value of the word it wraps to exactly when it is outside the signed range: every
signed value is inside, and nothing inside wraps. -/
theorem toInt_ofInt_ne_iff {w : Nat} (hw : 0 < w) (e : Int) :
    (BitVec.ofInt w e).toInt ≠ e ↔ 2 ^ (w - 1) ≤ e ∨ e < -2 ^ (w - 1) := by
  constructor
  · intro hne
    by_contra hin
    exact hne (BitVec.toInt_ofInt_eq_self hw (by omega) (by omega))
  · intro hout heq
    have hlt := (BitVec.ofInt w e).toInt_lt
    have hge := (BitVec.ofInt w e).le_toInt
    omega

/-- Two operands of one sign and a sum of the other (R234): the exact sum is outside the signed range. -/
theorem addOverflows_eq (a b : Word) :
    addOverflows a b = decide ((a + b).toInt ≠ a.toInt + b.toInt) := by
  have hsigns : addOverflows a b = a.saddOverflow b := (BitVec.saddOverflow_eq a b).symm
  rw [hsigns, BitVec.toInt_add, ← BitVec.toInt_ofInt, Bool.eq_iff_iff, decide_eq_true_iff,
    toInt_ofInt_ne_iff (by decide)]
  simp [BitVec.saddOverflow]

/-- Two operands of two signs and a difference whose sign is not the minuend's (R230): the exact difference is outside
the signed range. -/
theorem subOverflows_eq (a b : Word) :
    subOverflows a b = decide ((a - b).toInt ≠ a.toInt - b.toInt) := by
  have hsigns : subOverflows a b = a.ssubOverflow b := by
    rw [BitVec.ssubOverflow_eq, subOverflows]
    cases a.msb <;> cases b.msb <;> simp
  rw [hsigns, BitVec.toInt_sub, ← BitVec.toInt_ofInt, Bool.eq_iff_iff, decide_eq_true_iff,
    toInt_ofInt_ne_iff (by decide)]
  simp [BitVec.ssubOverflow]

/-- Settles O36: each instruction writes one register and T. Result and T of `ADDC`, `SUBC` and `NEGC` hold the
unbounded integer they are cut from; T of `ADDV` and `SUBV`, given by signs in the model, is the signed overflow. -/
theorem carryAndOverflowResults : Obligations.CarryAndOverflowResults := by
  intro s n m
  exact ⟨reads_group3 rfl, reads_group3 rfl, reads_group6 rfl, reads_group3 rfl, reads_group3 rfl,
    ⟨_, _, regTResult_of_done (exec_addc s n m) rfl, toNat_addWithCarry (s.r n) (s.r m) s.t⟩,
    ⟨_, _, regTResult_of_done (exec_subc s n m) rfl, toNat_subWithBorrow (s.r n) (s.r m) s.t⟩,
    ⟨_, _, regTResult_of_done (exec_negc s n m) rfl, toNat_subWithBorrow 0 (s.r m) s.t⟩,
    regTResult_of_done (exec_addv s n m) (addOverflows_eq (s.r n) (s.r m)),
    regTResult_of_done (exec_subv s n m) (subOverflows_eq (s.r n) (s.r m))⟩

end Sys2Proof.Machine
end

section
/-! SUPPORT. The statement on the shifts (O34): an instruction whose one write is to a register, a one-bit shift or
rotate as two pieces of the word put together, and the three ranges of the count of a dynamic shift. -/

namespace Sys2Proof.Machine

/-! ### An instruction that writes one register -/

theorem writesReg_setR_advance (s : State) (n : Reg) (v : Word) : WritesReg s (s.setR n v).advance n v where
  value := by simp
  frame := ((KeepsExcept.refl s [n] []).setR v (by simp)).frame_advance
  acc := SameAcc.advance ⟨rfl, rfl, rfl⟩
  fpu := SameFpu.advance ⟨rfl, rfl, rfl, rfl⟩
  mem := SameMem.advance ⟨fun _ => rfl, rfl⟩

theorem regResult_of_done {i : Instr} {s : State} {n : Reg} {v r : Word} (h : exec i s = done (s.setR n v))
    (hv : v = r) : RegResult i s n r :=
  completes_of_done h (hv ▸ writesReg_setR_advance s n v)

/-- As `regTResult_of_done`, where it is the value that the statement gives in another form than the model. -/
theorem regTResult_of_done_of_value {i : Instr} {s : State} {n : Reg} {v r : Word} {b : Bool}
    (h : exec i s = done ((s.setR n v).setT b)) (hv : v = r) : RegTResult i s n r b :=
  hv ▸ regTResult_of_done h rfl

/-! ### One-bit shifts and rotates -/

theorem shiftLeft_one_eq_mul (a : Word) : a <<< 1 = a * 2 := BitVec.shiftLeft_eq_mul_twoPow a 1

theorem ushiftRight_one_eq_div (a : Word) : a >>> 1 = a / 2 := (BitVec.udiv_twoPow_eq_of_lt (by decide)).symm

theorem shiftLeft_one_eq_append (a : Word) : a <<< 1 = a.extractLsb' 0 31 ++ 0#1 :=
  BitVec.shiftLeft_eq_concat_of_lt (by decide)

theorem shiftLeft_31_eq_append (a : Word) : a <<< 31 = a.extractLsb' 0 1 ++ 0#31 :=
  BitVec.shiftLeft_eq_concat_of_lt (by decide)

theorem ushiftRight_one_eq_append (a : Word) : a >>> 1 = 0#1 ++ a.extractLsb' 1 31 :=
  BitVec.ushiftRight_eq_extractLsb'_of_lt (by decide)

theorem ushiftRight_31_eq_append (a : Word) : a >>> 31 = 0#31 ++ a.extractLsb' 31 1 :=
  BitVec.ushiftRight_eq_extractLsb'_of_lt (by decide)

theorem wordOfBool_eq_append (t : Bool) : wordOfBool t = 0#31 ++ BitVec.ofBool t := by
  cases t <;> rfl

theorem wordOfBool_shiftLeft_31_eq_append (t : Bool) : wordOfBool t <<< 31 = BitVec.ofBool t ++ 0#31 := by
  cases t <;> rfl

/-- Two pieces of a word, each shifted to its own place, do not overlap. -/
theorem append_zero_or_zero_append {j k : Nat} (x : BitVec j) (y : BitVec k) :
    (x ++ 0#k) ||| (0#j ++ y) = x ++ y := by
  rw [BitVec.or_append, BitVec.or_zero, BitVec.zero_or]

/-- `ROTL`: the top bit comes in below (R258). -/
theorem rotateLeft_one_eq_append (a : Word) : a.rotateLeft 1 = a.extractLsb' 0 31 ++ a.extractLsb' 31 1 :=
  calc a.rotateLeft 1
    _ = (a <<< 1) ||| (a >>> 31) := rfl
    _ = (a.extractLsb' 0 31 ++ 0#1) ||| (0#31 ++ a.extractLsb' 31 1) := by
      rw [shiftLeft_one_eq_append, ushiftRight_31_eq_append]
    _ = a.extractLsb' 0 31 ++ a.extractLsb' 31 1 := append_zero_or_zero_append _ _

/-- `ROTR`: the bottom bit comes in above (R260). -/
theorem rotateRight_one_eq_append (a : Word) : a.rotateRight 1 = a.extractLsb' 0 1 ++ a.extractLsb' 1 31 :=
  calc a.rotateRight 1
    _ = (a <<< 31) ||| (a >>> 1) := BitVec.or_comm _ _
    _ = (a.extractLsb' 0 1 ++ 0#31) ||| (0#1 ++ a.extractLsb' 1 31) := by
      rw [shiftLeft_31_eq_append, ushiftRight_one_eq_append]
    _ = a.extractLsb' 0 1 ++ a.extractLsb' 1 31 := append_zero_or_zero_append _ _

/-- `ROTCL`: T comes in below (R259). -/
theorem rotateLeftThroughT_eq_append (a : Word) (t : Bool) :
    (a <<< 1) ||| wordOfBool t = a.extractLsb' 0 31 ++ BitVec.ofBool t := by
  rw [shiftLeft_one_eq_append, wordOfBool_eq_append]
  exact append_zero_or_zero_append _ _

/-- `ROTCR`: T comes in above (R262). -/
theorem rotateRightThroughT_eq_append (a : Word) (t : Bool) :
    (a >>> 1) ||| (wordOfBool t <<< 31) = BitVec.ofBool t ++ a.extractLsb' 1 31 := by
  rw [BitVec.or_comm, wordOfBool_shiftLeft_31_eq_append, ushiftRight_one_eq_append]
  exact append_zero_or_zero_append _ _

/-- `DT`: the new value is 0 exactly when the old one is 1 (R241). -/
theorem sub_one_beq_zero (a : Word) : (a - 1 == 0) = decide (a = 1) := by
  rw [Bool.beq_eq_decide_eq, decide_eq_decide, sub_eq_zero]

/-! ### Dynamic shifts -/

section DynShift

variable {count : Word} {left right : Nat → Word} {allOut : Word}

theorem dynShift_of_nonneg (h : count.msb = false) : dynShift count left right allOut = left (count.toNat % 32) := by
  simp [dynShift, h]

theorem dynShift_of_neg_of_low_zero (h : count.msb = true) (h0 : count.toNat % 32 = 0) :
    dynShift count left right allOut = allOut := by
  simp [dynShift, h, h0]

theorem dynShift_of_neg_of_low_ne_zero (h : count.msb = true) (h0 : count.toNat % 32 ≠ 0) :
    dynShift count left right allOut = right (32 - count.toNat % 32) := by
  simp [dynShift, h, h0]

end DynShift

/-- Shifted right by 31 with its sign, a word is its sign in every bit: bit 0 is the old bit 31, those above are
copies (R289). -/
theorem getElem_sshiftRight_31 (a : Word) {i : Nat} (hi : i < 32) : (a.sshiftRight 31)[i] = a.msb := by
  rw [BitVec.getElem_sshiftRight]
  split
  · obtain rfl : i = 0 := by omega
    exact (BitVec.msb_eq_getLsbD_last a).symm
  · rfl

theorem sshiftRight_31_eq (a : Word) : a.sshiftRight 31 = if a.msb then 0xFFFFFFFF else 0 := by
  ext i hi
  rw [getElem_sshiftRight_31]
  cases a.msb with
  | false => simp
  | true => exact (BitVec.getElem_allOnes i hi).symm

/-- Settles O34: each instruction writes one register, and the one-bit shifts, the rotates and `DT` write T too; what
is left is the value the model writes, in the form the statement gives it. -/
theorem shiftResults : Obligations.ShiftResults := by
  intro s n m
  refine ⟨reads_group4 rfl, reads_group4 rfl, reads_group4 rfl, reads_group4 rfl, reads_group4 rfl, reads_group4 rfl,
    reads_group4 rfl, reads_group4 rfl, reads_group4 rfl, reads_group4 rfl, reads_group4 rfl,
    regTResult_of_done_of_value (exec_shll s n) (shiftLeft_one_eq_mul _),
    regTResult_of_done_of_value (exec_shal s n) (shiftLeft_one_eq_mul _),
    regTResult_of_done_of_value (exec_shlr s n) (ushiftRight_one_eq_div _),
    regTResult_of_done (exec_shar s n) rfl,
    regTResult_of_done_of_value (exec_rotl s n) (rotateLeft_one_eq_append _),
    regTResult_of_done_of_value (exec_rotr s n) (rotateRight_one_eq_append _),
    regTResult_of_done_of_value (exec_rotcl s n) (rotateLeftThroughT_eq_append _ _),
    regTResult_of_done_of_value (exec_rotcr s n) (rotateRightThroughT_eq_append _ _),
    regTResult_of_done (exec_dt s n) (sub_one_beq_zero _),
    ?left, ?allOut, ?right⟩
  case left =>
    intro h
    exact ⟨regResult_of_done (exec_shad s n m) (dynShift_of_nonneg h),
      regResult_of_done (exec_shld s n m) (dynShift_of_nonneg h)⟩
  case allOut =>
    intro h h0
    exact ⟨regResult_of_done (exec_shad s n m) ((dynShift_of_neg_of_low_zero h h0).trans (sshiftRight_31_eq _)),
      regResult_of_done (exec_shld s n m) (dynShift_of_neg_of_low_zero h h0)⟩
  case right =>
    intro h h0
    exact ⟨regResult_of_done (exec_shad s n m) (dynShift_of_neg_of_low_ne_zero h h0),
      regResult_of_done (exec_shld s n m) (dynShift_of_neg_of_low_ne_zero h h0)⟩

end Sys2Proof.Machine
end

section
/-! SUPPORT. The statement on the combiner prefix (O31): group 8 of the decoder under any second word. -/

namespace Sys2Proof.Machine

/-- Unlike `reads_group8`, this is under every second word, which only 8Axx of the group looks at (R148). -/
theorem decode_word4_group8 (b c d : Nibble) (iw2 : Half) :
    decode (word4 0x8 b c d) iw2 = decodeGroup8 b c d iw2 := by
  simp [decode]

/-- Settles O31: the second nibble E picks the row `XPFX0` of group 8, and that instruction's meaning is the refusal,
whatever the state (R412). -/
theorem xpfxRefused : Obligations.XpfxRefused := by
  intro b c iw2 s
  have hrow : decodeGroup8 0xE b c iw2 = .ok (.xpfx0 (b ++ c)) := rfl
  exact ⟨(decode_word4_group8 0xE b c iw2).trans hrow, exec_xpfx0 s (b ++ c)⟩

end Sys2Proof.Machine
end

section
/-! SUPPORT. The statement on the state after trap entry (O20): the bits of SR, and the registers of each half. -/

namespace Sys2Proof.Machine

/-! ### SR after trap entry -/

/-- The mask that trap entry sets has MD, RB and BL and no other bit (R445). -/
theorem getLsbD_trapMask (i : Nat) : (0x70000000 : Word).getLsbD i = decide (28 ≤ i ∧ i ≤ 30) := by
  by_cases hi : i < 32
  · revert i
    decide
  · rw [BitVec.getLsbD_of_ge _ _ (by omega), decide_eq_false (by omega)]

theorem getLsbD_trapEntry_sr (e : Event) (s : State) (i : Nat) :
    (trapEntry e s).sr.getLsbD i = (s.sr.getLsbD i || decide (28 ≤ i ∧ i ≤ 30)) := by
  rw [trapEntry_sr, BitVec.getLsbD_or, getLsbD_trapMask]

theorem getLsbD_trapEntry_sr_of_mem (e : Event) (s : State) {i : Nat} (h : 28 ≤ i ∧ i ≤ 30) :
    (trapEntry e s).sr.getLsbD i = true := by
  rw [getLsbD_trapEntry_sr, decide_eq_true h, Bool.or_true]

theorem getLsbD_trapEntry_sr_of_lt (e : Event) (s : State) {i : Nat} (h : i < 28) :
    (trapEntry e s).sr.getLsbD i = s.sr.getLsbD i := by
  rw [getLsbD_trapEntry_sr, decide_eq_false (by omega), Bool.or_false]

@[simp] theorem State.md_trapEntry (e : Event) (s : State) : (trapEntry e s).md = true :=
  getLsbD_trapEntry_sr_of_mem e s (by decide)
@[simp] theorem State.rb_trapEntry (e : Event) (s : State) : (trapEntry e s).rb = true :=
  getLsbD_trapEntry_sr_of_mem e s (by decide)
@[simp] theorem State.bl_trapEntry (e : Event) (s : State) : (trapEntry e s).bl = true :=
  getLsbD_trapEntry_sr_of_mem e s (by decide)
@[simp] theorem State.t_trapEntry (e : Event) (s : State) : (trapEntry e s).t = s.t :=
  getLsbD_trapEntry_sr_of_lt e s (by decide)
@[simp] theorem State.satS_trapEntry (e : Event) (s : State) : (trapEntry e s).satS = s.satS :=
  getLsbD_trapEntry_sr_of_lt e s (by decide)
@[simp] theorem State.q_trapEntry (e : Event) (s : State) : (trapEntry e s).q = s.q :=
  getLsbD_trapEntry_sr_of_lt e s (by decide)
@[simp] theorem State.m_trapEntry (e : Event) (s : State) : (trapEntry e s).m = s.m :=
  getLsbD_trapEntry_sr_of_lt e s (by decide)
@[simp] theorem State.fd_trapEntry (e : Event) (s : State) : (trapEntry e s).fd = s.fd :=
  getLsbD_trapEntry_sr_of_lt e s (by decide)

@[simp] theorem State.im_trapEntry (e : Event) (s : State) : (trapEntry e s).im = s.im := by
  have hmask : (0x70000000 : Word).extractLsb' 4 4 = 0#4 := rfl
  rw [State.im, trapEntry_sr, BitVec.extractLsb'_or, hmask, BitVec.or_zero, State.im]

/-! ### Registers after trap entry -/

/-- Bank B needs MD, and RB too where the machine selects by both (R34); trap entry sets both. -/
@[simp] theorem State.onB_trapEntry (e : Event) (s : State) : (trapEntry e s).onB = true := by
  have hmd : (trapEntry e s).sr.getLsbD 30 = true := State.md_trapEntry e s
  have hrb : (trapEntry e s).sr.getLsbD 29 = true := State.rb_trapEntry e s
  rw [State.onB]
  cases (trapEntry e s).cfg.bankSelect with
  | byMd => exact hmd
  | byMdAndRb => rw [bankIsB, hmd, hrb, Bool.and_true]

/-- R8 to R15 are in neither bank (R33). -/
theorem State.r_of_msb {s : State} {i : Reg} (h : i.msb = true) : s.r i = bankGet s.rh (lowReg i) := by
  rw [State.r, if_pos h]

theorem State.r_trapEntry_of_msb (e : Event) (s : State) {i : Reg} (h : i.msb = true) :
    (trapEntry e s).r i = s.r i := by
  rw [State.r_of_msb h, State.r_of_msb h, trapEntry_rh]

theorem State.r_low_of_onB {s : State} (h : s.onB = true) (k : BankReg) : s.r (0#1 ++ k) = bankGet s.bankB k := by
  have hlow : (0#1 ++ k).msb = false := by revert k; decide
  have hk : lowReg (0#1 ++ k) = k := BitVec.extractLsb'_append_eq_right
  rw [State.r, hlow, if_neg Bool.false_ne_true, if_pos h, hk]

theorem sgrOnTrap_of_r15 {s : State} (h : s.cfg.sgrOnTrap = .r15) : sgrOnTrap s = s.r 15 := by
  rw [sgrOnTrap, h]

theorem sgrOnTrap_of_unchanged {s : State} (h : s.cfg.sgrOnTrap = .unchanged) : sgrOnTrap s = s.sgr := by
  rw [sgrOnTrap, h]

/-- Settles O20: `trapEntry` writes the fields that R445 lists and no others. SR is read bit by bit, and with MD and
RB set R0 to R7 name Bank B. -/
theorem trapEntryState : Obligations.TrapEntryState := by
  intro e s
  exact ⟨trapEntry_sr s e, trapEntry_ssr s e, trapEntry_spc s e, trapEntry_pc s e,
    State.md_trapEntry e s, State.rb_trapEntry e s, State.bl_trapEntry e s,
    State.t_trapEntry e s, State.satS_trapEntry e s, State.im_trapEntry e s,
    State.q_trapEntry e s, State.m_trapEntry e s, State.fd_trapEntry e s,
    sgrOnTrap_of_r15, sgrOnTrap_of_unchanged,
    State.onB_trapEntry e s, State.r_low_of_onB (State.onB_trapEntry e s),
    fun _ => State.r_trapEntry_of_msb e s,
    trapEntry_slot s e, trapEntry_asleep s e,
    trapEntry_bankA s e, trapEntry_bankB s e, trapEntry_rh s e,
    trapEntry_mem s e, trapEntry_gbr s e, trapEntry_vbr s e,
    trapEntry_pr s e, trapEntry_mach s e, trapEntry_macl s e,
    trapEntry_special s e,
    ⟨trapEntry_fpscr s e, trapEntry_fpul s e, trapEntry_fb0 s e, trapEntry_fb1 s e⟩⟩

end Sys2Proof.Machine
end

section
/-! SUPPORT. The statement on the saved PC (O21): outside a delay slot, in one, and in that of `RTE`. -/

namespace Sys2Proof.Machine

/-! ### The saved PC -/

theorem savedPc_interrupt (s : State) (level : BitVec 4) : savedPc s (.interrupt level) = s.pc := rfl

theorem savedPc_trap_of_none {s : State} (h : s.slot = none) (imm : BitVec 8) :
    savedPc s (.trap imm) = s.pc + 2 := by
  simp [savedPc, h]

theorem savedPc_breakpoint_of_none {s : State} (h : s.slot = none) : savedPc s .breakpoint = s.pc + 2 := by
  simp [savedPc, h]

/-- Outside a delay slot only `TRAPA` and `BRK` save another address than the PC. -/
theorem savedPc_of_none {s : State} {e : Event} (h : s.slot = none) (htrap : ∀ imm, e ≠ .trap imm)
    (hbrk : e ≠ .breakpoint) : savedPc s e = s.pc := by
  cases e with
  | trap imm => exact absurd rfl (htrap imm)
  | breakpoint => exact absurd rfl hbrk
  | _ => simp [savedPc, h]

/-- In a delay slot every synchronous event saves the address of the delayed branch. -/
theorem savedPc_of_slot {s : State} {e : Event} (h : s.slot ≠ none) (hsync : ∀ level, e ≠ .interrupt level) :
    savedPc s e = s.pc - 2 := by
  have hslot : s.slot.isSome = true := Option.isSome_iff_ne_none.mpr h
  cases e with
  | interrupt level => exact absurd rfl (hsync level)
  | _ => exact if_pos hslot

/-! ### The delay slot of `RTE` -/

theorem inRteSlot_of_some {s : State} {d : Slot} (h : s.slot = some d) : s.inRteSlot = d.rteMd.isSome := by
  rw [State.inRteSlot, h]

theorem raise_of_inRteSlot {s : State} (h : s.inRteSlot = true) (e : Event) :
    raise e s = .refused .eventInRteSlot := by
  rw [raise, if_pos h]

/-- Settles O21, by whether a delay slot is pending, and by whether it is that of `RTE`. -/
theorem savedPcByEvent : Obligations.SavedPcByEvent := by
  intro s k ea miss imm level
  refine ⟨fun h => ?outside, fun h => ?inside, savedPc_interrupt s level, fun d e hd hrte => ?rteSlot⟩
  case outside =>
    exact ⟨savedPc_of_none h nofun nofun, savedPc_of_none h nofun nofun, savedPc_of_none h nofun nofun,
      savedPc_of_none h nofun nofun, savedPc_trap_of_none h imm, savedPc_breakpoint_of_none h⟩
  case inside =>
    exact ⟨savedPc_of_slot h nofun, savedPc_of_slot h nofun, savedPc_of_slot h nofun, savedPc_of_slot h nofun⟩
  case rteSlot =>
    exact raise_of_inRteSlot ((inRteSlot_of_some hd).trans (Option.isSome_iff_ne_none.mpr hrte)) e

end Sys2Proof.Machine
end

section
/-! SUPPORT. The statement on the FPU instructions with SR.FD = 1 (O25): each of them begins with the check of FD. -/

namespace Sys2Proof.Machine

theorem fpuOff_of_none {s : State} (h : s.slot = none) : s.fpuOff = .fpuDisabled := by
  simp [State.fpuOff, h]

theorem fpuOff_of_slot {s : State} (h : s.slot ≠ none) : s.fpuOff = .slotFpuDisabled :=
  if_pos (Option.isSome_iff_ne_none.mpr h)

/-- Whatever an FPU instruction does, it does behind the check of SR.FD (R365): no check and no write comes before. -/
theorem exec_eq_fpu {i : Instr} (h : isFpu i = true) (s : State) : ∃ k, exec i s = fpu s k := by
  unfold isFpu at h
  split at h
  -- The last row of the table is that of every other instruction, for which `h` is false.
  case h_35 => cases h
  all_goals exact ⟨_, rfl⟩

theorem exec_of_fpuDisabled {i : Instr} {s : State} (hi : isFpu i = true) (hfd : s.fd = true) (ht : s.TakesEvents) :
    exec i s = .next (trapEntry s.fpuOff s) := by
  obtain ⟨k, hk⟩ := exec_eq_fpu hi s
  calc exec i s
    _ = fpu s k := hk
    _ = raise s.fpuOff s := fpu_of_off k hfd
    _ = .next (trapEntry s.fpuOff s) := raise_of_takes ht

/-- Settles O25: the event is the one that SR.FD raises before anything else, named and saved by whether a delay slot
is pending. -/
theorem fpuDisabledRaises : Obligations.FpuDisabledRaises := by
  intro i s hi hfd ht
  have hexec := exec_of_fpuDisabled hi hfd ht
  constructor
  · intro h
    rw [fpuOff_of_none h] at hexec
    exact ⟨_, hexec, rfl, (trapEntry_spc s _).trans (savedPc_of_none h nofun nofun)⟩
  · intro h
    rw [fpuOff_of_slot h] at hexec
    exact ⟨_, hexec, rfl, (trapEntry_spc s _).trans (savedPc_of_slot h nofun)⟩

end Sys2Proof.Machine
end

section
/-! SUPPORT. The statements on the encoding (O1 to O5): the decoder as a function of the four nibbles of a word, and
the two directions of the round trip, row by row. -/

namespace Sys2Proof.Machine

open BitVec (extractLsb'_append_eq_of_le extractLsb'_append_eq_left extractLsb'_append_eq_right)

/-! ### The decoder as a function of nibbles -/

/-- `decode` on the nibbles of the first word (R134): what `decode_word4` and `decode_eq_nibbles` tie it to. -/
def decodeNibbles (a b c d : Nibble) (iw2 : Half) : Except Reject Instr :=
  match a.toNat with
  | 0 => decodeGroup0 b c d
  | 1 => decodeGroup1 b c d
  | 2 => decodeGroup2 b c d
  | 3 => decodeGroup3 b c d
  | 4 => decodeGroup4 b c d
  | 5 => decodeGroup5 b c d
  | 6 => decodeGroup6 b c d
  | 7 => decodeGroup7 b c d
  | 8 => decodeGroup8 b c d iw2
  | 9 => decodeGroup9 b c d
  | 10 => decodeGroupA b c d
  | 11 => decodeGroupB b c d
  | 12 => decodeGroupC b c d
  | 13 => decodeGroupD b c d
  | 14 => decodeGroupE b c d
  | _ => decodeGroupF b c d

theorem decode_eq_nibbles (iw iw2 : Half) :
    decode iw iw2 = decodeNibbles (nib3 iw) (nib2 iw) (nib1 iw) (nib0 iw) iw2 := rfl

theorem decode_word4 (a b c d : Nibble) (iw2 : Half) : decode (word4 a b c d) iw2 = decodeNibbles a b c d iw2 := by
  rw [decode_eq_nibbles, nib3_word4, nib2_word4, nib1_word4, nib0_word4]

/-- A word is its four nibbles (R9). -/
theorem word4_nibbles (w : Half) : word4 (nib3 w) (nib2 w) (nib1 w) (nib0 w) = w := by
  have h : w.extractLsb' 12 4 ++ w.extractLsb' 8 4 ++ w.extractLsb' 4 4 ++ w.extractLsb' 0 4 = w := by
    ext i hi
    simp only [BitVec.getElem_append, BitVec.getElem_extractLsb']
    repeat' split
    all_goals (rw [← BitVec.getLsbD_eq_getElem]; congr 1; omega)
  exact h

theorem exists_word4 (w : Half) : ∃ a b c d, w = word4 a b c d := ⟨_, _, _, _, (word4_nibbles w).symm⟩

theorem word4_eq_bytes (a b c d : Nibble) : word4 a b c d = (a ++ b) ++ (c ++ d) := by
  unfold word4
  exact BitVec.append_assoc

theorem highByte_word4 (a b c d : Nibble) : (word4 a b c d).extractLsb' 8 8 = a ++ b := by
  rw [word4_eq_bytes]
  exact BitVec.extractLsb'_append_eq_left

theorem lowByte_word4 (a b c d : Nibble) : (word4 a b c d).extractLsb' 0 8 = c ++ d := by
  rw [word4_eq_bytes]
  exact BitVec.extractLsb'_append_eq_right

/-- The test for a second word, on the two nibbles it looks at (R148). -/
theorem isTwoWord_word4 (a b c d : Nibble) : isTwoWord (word4 a b c d) = (a == 0x8#4 && b == 0xA#4) := by
  have h : ∀ a b : Nibble, (a ++ b == 0x8A#8) = (a == 0x8#4 && b == 0xA#4) := by decide
  rw [isTwoWord, highByte_word4]
  exact h a b

/-- A nibble is one of sixteen: a case for each row of a group. -/
theorem nibble_cases {P : Nibble → Prop} (n0 : P 0#4) (n1 : P 1#4) (n2 : P 2#4) (n3 : P 3#4) (n4 : P 4#4)
    (n5 : P 5#4) (n6 : P 6#4) (n7 : P 7#4) (n8 : P 8#4) (n9 : P 9#4) (nA : P 10#4) (nB : P 11#4) (nC : P 12#4)
    (nD : P 13#4) (nE : P 14#4) (nF : P 15#4) (x : Nibble) : P x := by
  have h : ∀ i : Fin 16, P (BitVec.ofFin i) := by
    intro i
    fin_cases i <;> assumption
  exact h x.toFin

/-! ### Decoding what was encoded -/

/-- The instruction is one word, not 8Axx, from whose nibbles the decoder gives it back whatever word follows. -/
structure OneWord (i : Instr) (a b c d : Nibble) : Prop where
  encode : encode i = [word4 a b c d]
  alone : (a == 0x8#4 && b == 0xA#4) = false
  decode : ∀ iw2, decodeNibbles a b c d iw2 = .ok i

/-- A 12-bit displacement is its three nibbles. -/
theorem append_three_nibbles (l : BitVec 12) : l.extractLsb' 8 4 ++ l.extractLsb' 4 4 ++ l.extractLsb' 0 4 = l := by
  ext i hi
  simp only [BitVec.getElem_append, BitVec.getElem_extractLsb']
  repeat' split
  all_goals (rw [← BitVec.getLsbD_eq_getElem]; congr 1; omega)

/-- The nibble that names a register of the other bank has its top bit set, and the number below it (R128). -/
theorem bankNibble_msb (k : BankReg) : (1#1 ++ k : Nibble).msb = true := by revert k; decide

theorem bankNibble_low (k : BankReg) : (1#1 ++ k : Nibble).extractLsb' 0 3 = k :=
  BitVec.extractLsb'_append_eq_right

/-- The rows that name a register of the other bank. -/
theorem bankRow {f : BankReg → Instr} (k : BankReg) (x : Except Reject Instr) :
    (if (1#1 ++ k : Nibble).msb then .ok (f ((1#1 ++ k : Nibble).extractLsb' 0 3)) else x) = .ok (f k) := by
  rw [if_pos (bankNibble_msb k), bankNibble_low]

/-- Every row but `MOVI24` is one word. Where an immediate or a displacement was cut into nibbles, they join again. -/
theorem exists_oneWord {i : Instr} (h : i.wf = true) (hm : ∀ imm, i ≠ .movi24 imm) :
    ∃ a b c d, OneWord i a b c d := by
  cases i
  case movi24 imm => exact absurd rfl (hm imm)
  case stcBank n k | stclBank n k | ldclBank n k | ldcBank n k =>
    exact ⟨_, _, _, _, rfl, rfl, fun _ => bankRow k _⟩
  case bra l | bsr l =>
    exact ⟨_, _, _, _, rfl, rfl, fun _ => congrArg _ (congrArg _ (append_three_nibbles l))⟩
  case addI n v | movI n v | movWLoadPc n v | movLLoadPc n v =>
    exact ⟨_, _, _, _, rfl, rfl, fun _ => congrArg _ (congrArg _ (append_nibbles v))⟩
  case jsrN83 v | bsetBclr v | bstBld v | cmpeqI v | ldsh8 v | xpfx0 v | trapa v | tstI v | andI v | xorI v | orI v
      | tstBGbr v | andBGbr v | xorBGbr v | orBGbr v | bt v | bf v | bts v | bfs v | movBStoreGbr v | movWStoreGbr v
      | movLStoreGbr v | movBLoadGbr v | movWLoadGbr v | movLLoadGbr v | mova v =>
    exact ⟨_, _, _, _, rfl, rfl, fun _ => congrArg _ (congrArg _ (append_nibbles v))⟩
  case movi20 | movi20s | movBStoreD12 | movWStoreD12 | movLStoreD12 | fmovStoreD12 | movBLoadD12 | movWLoadD12
      | movLLoadD12 | fmovLoadD12 | movuBLoadD12 | movuWLoadD12 | bclrB | bsetB | bstB | bldB | bandB | borB | bxorB
      | bldnotB | bandnotB | bornotB | cmpbeq | cmpbne | cmpbge | cmpblt | cmpbgt | cmpble | shadImm | shldImm =>
    exact nomatch h
  all_goals exact ⟨_, _, _, _, rfl, rfl, fun _ => rfl⟩

/-- The two bytes of a word hold it, in either byte order (R157). -/
theorem bytesOfWord_eq (e : Endian) (w : Half) :
    ∃ b0 b1, bytesOfWord e w = [b0, b1] ∧ wordOfBytes e b0 b1 = w := by
  cases e with
  | little => exact ⟨_, _, rfl, half_eq_bytes w⟩
  | big => exact ⟨_, _, rfl, half_eq_bytes w⟩

theorem decodeBytes_of_alone {e : Endian} {w : Half} {rest : List Byte} (h : isTwoWord w = false) :
    decodeBytes e (bytesOfWord e w ++ rest) = decode w 0 := by
  obtain ⟨b0, b1, hb, hw⟩ := bytesOfWord_eq e w
  simp [hb, decodeBytes, hw, h]

theorem decodeBytes_of_twoWord {e : Endian} {w w2 : Half} {rest : List Byte} (h : isTwoWord w = true) :
    decodeBytes e (bytesOfWord e w ++ (bytesOfWord e w2 ++ rest)) = decode w w2 := by
  obtain ⟨b0, b1, hb, hw⟩ := bytesOfWord_eq e w
  obtain ⟨c0, c1, hc, hw2⟩ := bytesOfWord_eq e w2
  rw [hb, hc]
  simp only [List.cons_append, List.nil_append, decodeBytes, hw, h, if_true, hw2]

/-- The two words of `MOVI24` (R410). -/
theorem encode_movi24 (imm : BitVec 24) :
    encode (.movi24 imm)
      = [word4 0x8 0xA (imm.extractLsb' 20 4) (imm.extractLsb' 16 4), imm.extractLsb' 0 16] := rfl

/-- A 24-bit immediate is two nibbles and a word. -/
theorem append_movi24 (imm : BitVec 24) :
    imm.extractLsb' 20 4 ++ imm.extractLsb' 16 4 ++ imm.extractLsb' 0 16 = imm := by
  ext i hi
  simp only [BitVec.getElem_append, BitVec.getElem_extractLsb']
  repeat' split
  all_goals (rw [← BitVec.getLsbD_eq_getElem]; congr 1; omega)

/-- Settles O1: one word for every row but `MOVI24`, whose second word follows the first. -/
theorem decodeOfEncode : Obligations.DecodeOfEncode := by
  intro e i rest hwf
  by_cases hm : ∃ imm, i = .movi24 imm
  · obtain ⟨imm, rfl⟩ := hm
    have htwo : isTwoWord (word4 0x8 0xA (imm.extractLsb' 20 4) (imm.extractLsb' 16 4)) = true := isTwoWord_word4 _ _ _ _
    rw [encodeBytes, encode_movi24, List.flatMap_cons, List.flatMap_singleton, List.append_assoc,
      decodeBytes_of_twoWord htwo, decode_word4]
    exact congrArg _ (congrArg _ (append_movi24 imm))
  · obtain ⟨a, b, c, d, hone⟩ := exists_oneWord hwf fun imm h => hm ⟨imm, h⟩
    have halone : isTwoWord (word4 a b c d) = false := (isTwoWord_word4 a b c d).trans hone.alone
    rw [encodeBytes, hone.encode, List.flatMap_singleton, decodeBytes_of_alone halone, decode_word4, hone.decode]

/-! ### Encoding what was decoded -/

/-- What the decoder answers, if it is an instruction, is well-formed and has these words. -/
def Faithful (ws : List Half) : Except Reject Instr → Prop
  | .ok i => i.wf = true ∧ encode i = ws
  | .error _ => True

theorem faithful_group0 (b c d : Nibble) : Faithful [word4 0x0 b c d] (decodeGroup0 b c d) := by
  induction d using nibble_cases
  case n2 | n3 | nA => induction c using nibble_cases <;> trivial
  -- The operations without arguments, whose high nibble is 0.
  case n8 | n9 | nB => induction c using nibble_cases <;> induction b using nibble_cases <;> trivial
  all_goals trivial

theorem faithful_group2 (b c d : Nibble) : Faithful [word4 0x2 b c d] (decodeGroup2 b c d) := by
  induction d using nibble_cases <;> trivial

theorem faithful_group3 (b c d : Nibble) : Faithful [word4 0x3 b c d] (decodeGroup3 b c d) := by
  induction d using nibble_cases <;> trivial

theorem faithful_group4 (b c d : Nibble) : Faithful [word4 0x4 b c d] (decodeGroup4 b c d) := by
  induction d using nibble_cases
  case nC | nD | nF => trivial
  all_goals induction c using nibble_cases <;> trivial

theorem faithful_group6 (b c d : Nibble) : Faithful [word4 0x6 b c d] (decodeGroup6 b c d) := by
  induction d using nibble_cases <;> trivial

theorem faithful_groupF (b c d : Nibble) : Faithful [word4 0xF b c d] (decodeGroupF b c d) := by
  induction d using nibble_cases
  case nD =>
    induction c using nibble_cases
    case nF => induction b using nibble_cases <;> trivial
    all_goals trivial
  all_goals trivial

/-- The rows whose last two nibbles are one immediate or displacement. -/
theorem word4_append_nibbles (a b c d : Nibble) :
    [word4 a b ((c ++ d).extractLsb' 4 4) ((c ++ d).extractLsb' 0 4)] = [word4 a b c d] := by
  rw [BitVec.extractLsb'_append_eq_left, BitVec.extractLsb'_append_eq_right]

/-- The rows whose last three nibbles are one displacement. -/
theorem word4_append_three_nibbles (a b c d : Nibble) :
    [word4 a ((b ++ c ++ d).extractLsb' 8 4) ((b ++ c ++ d).extractLsb' 4 4) ((b ++ c ++ d).extractLsb' 0 4)]
      = [word4 a b c d] := by
  have hb : (b ++ c ++ d).extractLsb' 8 4 = b :=
    (extractLsb'_append_eq_of_le (by decide)).trans extractLsb'_append_eq_left
  have hc : (b ++ c ++ d).extractLsb' 4 4 = c :=
    (extractLsb'_append_eq_of_le (by decide)).trans extractLsb'_append_eq_right
  rw [hb, hc, extractLsb'_append_eq_right]

theorem faithful_group8 {b : Nibble} (hb : (b == 0xA#4) = false) (c d : Nibble) (iw2 : Half) :
    Faithful [word4 0x8 b c d] (decodeGroup8 b c d iw2) := by
  induction b using nibble_cases
  case n2 => trivial
  case nA => cases hb
  case n0 | n1 | n4 | n5 => exact ⟨rfl, rfl⟩
  all_goals exact ⟨rfl, word4_append_nibbles _ _ c d⟩

theorem faithful_groupC (b c d : Nibble) : Faithful [word4 0xC b c d] (decodeGroupC b c d) := by
  induction b using nibble_cases
  all_goals exact ⟨rfl, word4_append_nibbles _ _ c d⟩

/-- A first word that takes no second one is read from its nibbles, whatever word follows. -/
theorem faithful_of_alone {a b : Nibble} (h : (a == 0x8#4 && b == 0xA#4) = false) (c d : Nibble) (iw2 : Half) :
    Faithful [word4 a b c d] (decodeNibbles a b c d iw2) := by
  induction a using nibble_cases
  case n0 => exact faithful_group0 b c d
  case n2 => exact faithful_group2 b c d
  case n3 => exact faithful_group3 b c d
  case n4 => exact faithful_group4 b c d
  case n6 => exact faithful_group6 b c d
  case n8 => exact faithful_group8 h c d iw2
  case nC => exact faithful_groupC b c d
  case nF => exact faithful_groupF b c d
  case n1 | n5 => exact ⟨rfl, rfl⟩
  case nA | nB => exact ⟨rfl, word4_append_three_nibbles _ b c d⟩
  case n7 | n9 | nD | nE => exact ⟨rfl, word4_append_nibbles _ b c d⟩

/-- The immediate of `MOVI24` is the low byte of its first word above its second word (R410). -/
theorem decodeNibbles_movi24 (c d : Nibble) (iw2 : Half) :
    decodeNibbles 0x8 0xA c d iw2 = .ok (.movi24 (c ++ d ++ iw2)) := rfl

theorem encode_movi24_append (c d : Nibble) (iw2 : Half) :
    encode (.movi24 (c ++ d ++ iw2)) = [word4 0x8 0xA c d, iw2] := by
  have hc : (c ++ d ++ iw2).extractLsb' 20 4 = c :=
    (extractLsb'_append_eq_of_le (by decide)).trans extractLsb'_append_eq_left
  have hd : (c ++ d ++ iw2).extractLsb' 16 4 = d :=
    (extractLsb'_append_eq_of_le (by decide)).trans extractLsb'_append_eq_right
  rw [encode_movi24, hc, hd, extractLsb'_append_eq_right]

theorem nibbles_of_twoWord {a b : Nibble} (h : (a == 0x8#4 && b == 0xA#4) = true) : a = 0x8 ∧ b = 0xA := by
  rwa [Bool.and_eq_true, beq_iff_eq, beq_iff_eq] at h

/-- The words that the decoder reads an instruction from are those it encodes to. -/
theorem decode_faithful (iw iw2 : Half) :
    Faithful (if isTwoWord iw then [iw, iw2] else [iw]) (decode iw iw2) := by
  obtain ⟨a, b, c, d, rfl⟩ := exists_word4 iw
  rw [decode_word4, isTwoWord_word4]
  cases htwo : a == 0x8#4 && b == 0xA#4 with
  | false => exact faithful_of_alone htwo c d iw2
  | true =>
    obtain ⟨rfl, rfl⟩ := nibbles_of_twoWord htwo
    exact ⟨rfl, encode_movi24_append c d iw2⟩

theorem bytesOfWord_wordOfBytes (e : Endian) (b0 b1 : Byte) : bytesOfWord e (wordOfBytes e b0 b1) = [b0, b1] := by
  have hlow (x y : Byte) : (x ++ y).extractLsb' 0 8 = y := extractLsb'_append_eq_right
  have hhigh (x y : Byte) : (x ++ y).extractLsb' 8 8 = x := extractLsb'_append_eq_left
  cases e with
  | little => exact congrArg₂ (fun x y => [x, y]) (hlow b1 b0) (hhigh b1 b0)
  | big => exact congrArg₂ (fun x y => [x, y]) (hhigh b0 b1) (hlow b0 b1)

theorem Faithful.of_eq {ws : List Half} {x : Except Reject Instr} {i : Instr} (h : Faithful ws x) (hx : x = .ok i) :
    i.wf = true ∧ encode i = ws := by
  subst hx
  exact h

/-- The words that bytes are read as: those the bytes begin with, and one instruction's. -/
theorem decodeBytes_ok {e : Endian} {bytes : List Byte} {i : Instr} (h : decodeBytes e bytes = .ok i) :
    i.wf = true ∧ ∃ ws rest, encode i = ws ∧ bytes = ws.flatMap (bytesOfWord e) ++ rest := by
  unfold decodeBytes at h
  split at h
  case h_2 => cases h
  case h_1 b0 b1 rest =>
    have hword := decode_faithful (wordOfBytes e b0 b1)
    split at h
    case isFalse halone =>
      obtain ⟨hwf, henc⟩ := (hword 0).of_eq h
      rw [if_neg halone] at henc
      exact ⟨hwf, _, rest, henc, by simp [bytesOfWord_wordOfBytes]⟩
    case isTrue htwo =>
      split at h
      case h_2 => cases h
      case h_1 b2 b3 tail =>
        obtain ⟨hwf, henc⟩ := (hword (wordOfBytes e b2 b3)).of_eq h
        rw [if_pos htwo] at henc
        exact ⟨hwf, _, tail, henc, by simp [bytesOfWord_wordOfBytes]⟩

/-- Settles O2: the bytes make one or two words, and the decoder is faithful to those. -/
theorem encodeOfDecode : Obligations.EncodeOfDecode := by
  intro e bytes i h
  obtain ⟨hwf, ws, rest, henc, hbytes⟩ := decodeBytes_ok h
  exact ⟨hwf, rest, by rw [hbytes, encodeBytes, henc]⟩

/-! ### The second word, and the reserved spaces -/

/-- A first word that takes no second one is decoded alone (R148). -/
theorem decodeNibbles_of_alone {a b : Nibble} (h : (a == 0x8#4 && b == 0xA#4) = false) (c d : Nibble)
    (iw2 iw2' : Half) : decodeNibbles a b c d iw2 = decodeNibbles a b c d iw2' := by
  induction a using nibble_cases
  case n8 =>
    induction b using nibble_cases
    case nA => cases h
    all_goals rfl
  all_goals rfl

/-- Settles O3, on the nibbles of the first word. -/
theorem instructionLength : Obligations.InstructionLength := by
  intro iw iw2 iw2'
  obtain ⟨a, b, c, d, rfl⟩ := exists_word4 iw
  have htwo := isTwoWord_word4 a b c d
  rw [isTwoWord] at htwo
  rw [decode_word4, decode_word4, lowByte_word4]
  constructor
  · intro h
    rw [h] at htwo
    obtain ⟨rfl, rfl⟩ := nibbles_of_twoWord htwo.symm
    exact decodeNibbles_movi24 c d iw2
  · intro h
    exact decodeNibbles_of_alone (htwo.symm.trans (beq_eq_false_iff_ne.mpr h)) c d iw2 iw2'

theorem runDecoded_of_error {x : Except Reject Instr} {r : Reject} (h : x = .error r) (s : State) :
    runDecoded x s = raise s.illegal s := by
  rw [h]; rfl

/-- The last row of group F is a reserved encoding (R151). -/
theorem exec_resFF_raises (x y : Nibble) (s : State) : exec (.resFF x y) s = raise s.illegal s := rfl

/-- Settles O4: four of the spaces decode to no instruction, the fifth to a reserved encoding. -/
theorem reservedSpaces : Obligations.ReservedSpaces := by
  intro b c x iw2 s
  refine ⟨runDecoded_of_error ((decode_word4 ..).trans rfl) s, runDecoded_of_error ((decode_word4 ..).trans rfl) s,
    runDecoded_of_error ((decode_word4 ..).trans rfl) s, runDecoded_of_error ((decode_word4 ..).trans rfl) s, ?lastNibbleF,
    isTwoWord_word4 0x0 b c x, isTwoWord_word4 0x3 b c x, isTwoWord_word4 0xF b c x⟩
  case lastNibbleF =>
    have hrow : decode (word4 0xF b c 0xF) iw2 = .ok (.resFF b c) := decode_word4 ..
    rw [hrow]
    exact exec_resFF_raises b c s

/-- Settles O5: each word is decoded by evaluation. -/
theorem sampleWords : Obligations.SampleWords :=
  ⟨rfl, rfl, rfl, rfl, rfl, rfl, rfl, rfl, rfl, rfl, rfl, rfl, rfl, rfl, rfl, rfl, rfl, rfl, rfl⟩

end Sys2Proof.Machine
end

section
/-! SUPPORT. What an instruction that answers a next state did, said once for every instruction: it made the writes
that its classes allow and moved on, or assigned the PC, or entered a trap. -/

namespace Sys2Proof.Machine

/-! ### Which instruction may write what -/

/-- The instructions that load SPC (R57). -/
def loadsSpc : Instr → Bool
  | .ldcSpc _ => true
  | .ldclSpc _ => true
  | _ => false

/-- The instructions that load SSR (R56). -/
def loadsSsr : Instr → Bool
  | .ldcSsr _ => true
  | .ldclSsr _ => true
  | _ => false

/-- The instructions that load SGR (R58). -/
def loadsSgr : Instr → Bool
  | .ldcSgr _ => true
  | .ldclSgr _ => true
  | _ => false

/-- The instructions that write S alone (R44). -/
def writesS : Instr → Bool
  | .clrs => true
  | .sets => true
  | _ => false

/-- The instructions that write M, but for the whole-SR writes (R47). -/
def writesM : Instr → Bool
  | .div0u => true
  | .div0s _ _ => true
  | _ => false

/-- The instructions that write Q, but for the whole-SR writes (R46). -/
def writesQ : Instr → Bool
  | .div0u => true
  | .div0s _ _ => true
  | .div1 _ _ => true
  | _ => false

/-- The single bits of SR that an instruction may write. -/
def writesFlag (i : Instr) (k : Nat) : Bool :=
  (k == 0 && writesT i) || (k == 1 && writesS i) || (k == 8 && writesQ i) || (k == 9 && writesM i)

theorem flag_of_writesFlag {i : Instr} {k : Nat} (h : writesFlag i k = true) : k = 0 ∨ k = 1 ∨ k = 8 ∨ k = 9 := by
  simp only [writesFlag, Bool.or_eq_true, Bool.and_eq_true, beq_iff_eq] at h
  omega

/-- The whole-SR writes are privileged (R461). -/
theorem writesWholeSr_of_user {i : Instr} (h : isPrivileged i = false) : writesWholeSr i = false := by
  unfold writesWholeSr
  split
  case h_4 => rfl
  all_goals cases h

theorem loadsSpc_of_user {i : Instr} (h : isPrivileged i = false) : loadsSpc i = false := by
  unfold loadsSpc
  split
  case h_3 => rfl
  all_goals cases h

theorem loadsSsr_of_user {i : Instr} (h : isPrivileged i = false) : loadsSsr i = false := by
  unfold loadsSsr
  split
  case h_3 => rfl
  all_goals cases h

theorem loadsSgr_of_user {i : Instr} (h : isPrivileged i = false) : loadsSgr i = false := by
  unfold loadsSgr
  split
  case h_3 => rfl
  all_goals cases h

/-! ### The listed bits of SR and FPSCR -/

/-- A word holds no bit outside a mask, bit by bit. -/
theorem and_not_eq_zero_iff (w mask : Word) :
    w &&& ~~~mask = 0 ↔ ∀ k, mask.getLsbD k = false → w.getLsbD k = false := by
  have hbit (k : Nat) (hk : k < 32) : (w &&& ~~~mask).getLsbD k = (w.getLsbD k && !mask.getLsbD k) := by
    simp [hk]
  constructor
  · intro h k hm
    by_cases hk : k < 32
    · have := hbit k hk
      rw [h, hm, Bool.not_false, Bool.and_true] at this
      exact this.symm.trans BitVec.getLsbD_zero
    · exact BitVec.getLsbD_of_ge _ _ (by omega)
  · intro h
    refine BitVec.eq_of_getLsbD_eq fun k hk => ?_
    refine (hbit k hk).trans (Eq.trans ?_ BitVec.getLsbD_zero.symm)
    cases hm : mask.getLsbD k with
    | false => rw [h k hm, Bool.false_and]
    | true => rw [Bool.not_true, Bool.and_false]

/-- Writing a bit of the mask keeps to the mask. -/
theorem setBit_listed {w mask : Word} {i : Nat} (b : Bool) (h : w &&& ~~~mask = 0) (hi : mask.getLsbD i = true) :
    setBit w i b &&& ~~~mask = 0 := by
  have hi32 : i < 32 := BitVec.lt_of_getLsbD hi
  rw [and_not_eq_zero_iff] at h ⊢
  intro k hk
  have hne : k ≠ i := fun e => by rw [e, hi] at hk; cases hk
  rw [getLsbD_setBit_ne hi32 hne]
  exact h k hk

theorem and_mask_listed (w mask : Word) : (w &&& mask) &&& ~~~mask = 0 := by
  rw [and_not_eq_zero_iff]
  intro k hk
  rw [BitVec.getLsbD_and, hk, Bool.and_false]

/-- The single bits that instructions write are listed ones (R52). -/
theorem srMask_of_writesFlag {i : Instr} {k : Nat} (h : writesFlag i k = true) : Config.srMask.getLsbD k = true := by
  obtain rfl | rfl | rfl | rfl := flag_of_writesFlag h <;> rfl

/-! ### The writes of an instruction -/

/-- `u` is `s` after writes that the classes of `i` allow, before the PC has moved on. -/
structure Wrote (i : Instr) (s u : State) : Prop where
  pc : u.pc = s.pc
  slot : u.slot = s.slot
  cfg : u.cfg = s.cfg
  dbr : u.dbr = s.dbr
  asleep : i ≠ .sleep → u.asleep = s.asleep
  vbr : isPrivileged i = false → u.vbr = s.vbr
  spc : loadsSpc i = false → u.spc = s.spc
  ssr : loadsSsr i = false → u.ssr = s.ssr
  sgr : loadsSgr i = false → u.sgr = s.sgr
  bankB : isPrivileged i = false → s.onB = false → u.bankB = s.bankB
  sr : writesWholeSr i = false → ∀ k, writesFlag i k = false → u.sr.getLsbD k = s.sr.getLsbD k
  srListed : s.srListed → u.srListed
  fpscrListed : s.fpscrListed → u.fpscrListed
  memWf : Memory.wf s.mem = true → Memory.wf u.mem = true
  byte : Memory.wf s.mem = true → ∀ a, (∀ p ∈ storedSpans i s, a < p.1 ∨ p.1 + p.2 ≤ a) →
    memGet u.mem a = memGet s.mem a
  stored : locsFrom 0 s.stored = true → locsFrom 0 u.stored = true
  special : s.cfg.special = .absent → u.special = s.special

namespace Wrote

variable {i : Instr} {s u : State}

theorem refl : Wrote i s s where
  pc := rfl
  slot := rfl
  cfg := rfl
  dbr := rfl
  asleep _ := rfl
  vbr _ := rfl
  spc _ := rfl
  ssr _ := rfl
  sgr _ := rfl
  bankB _ _ := rfl
  sr _ _ _ := rfl
  srListed h := h
  fpscrListed h := h
  memWf h := h
  byte _ _ _ := rfl
  stored h := h
  special _ := rfl

/-- The bits that select the bank are written by no single-bit write (R34). -/
theorem onB (h : Wrote i s u) (hw : writesWholeSr i = false) : u.onB = s.onB := by
  have hbit (k : Nat) (hk : 28 ≤ k) : u.sr.getLsbD k = s.sr.getLsbD k := by
    refine h.sr hw k (Bool.eq_false_iff.mpr fun hf => ?_)
    have := flag_of_writesFlag hf
    omega
  rw [State.onB, State.onB, h.cfg]
  unfold bankIsB
  rw [hbit 30 (by decide), hbit 29 (by decide)]

/-- The registers that every mode may write, and the FPU's. -/
theorem plain (h : Wrote i s u) (bankA rh : Vector Word 8) (gbr mach macl pr fpul : Word) (fb0 fb1 : Vector Word 16)
    (freeCtr : Nat) :
    Wrote i s { u with
      bankA := bankA, rh := rh, gbr := gbr, mach := mach, macl := macl, pr := pr, fpul := fpul, fb0 := fb0
      fb1 := fb1, freeCtr := freeCtr } :=
  { h with }

theorem setR (h : Wrote i s u) (n : Reg) (v : Word) : Wrote i s (u.setR n v) :=
  { h with
    bankB := fun hp hb => by
      have hu : u.onB = false := (h.onB (writesWholeSr_of_user hp)).trans hb
      rw [← h.bankB hp hb]
      simp [State.setR, hu] }

theorem setMac (h : Wrote i s u) (v : BitVec 64) : Wrote i s (u.setMac v) := h.plain _ _ _ _ _ _ _ _ _ _

theorem macWord (h : Wrote i s u) (a b : Half) : Wrote i s (u.macWord a b) := h.plain _ _ _ _ _ _ _ _ _ _

theorem setFb (h : Wrote i s u) (o : Bool) (f : FReg) (v : Word) : Wrote i s (u.setFb o f v) :=
  h.plain _ _ _ _ _ _ _ _ _ _

theorem setFr (h : Wrote i s u) (f : FReg) (v : Word) : Wrote i s (u.setFr f v) := h.setFb _ _ _

theorem setDr (h : Wrote i s u) (f : FReg) (v : BitVec 64) : Wrote i s (u.setDr f v) := (h.setFr _ _).setFr _ _

theorem setPair (h : Wrote i s u) (f : FReg) (v : Word × Word) : Wrote i s (u.setPair f v) :=
  (h.setFb _ _ _).setFb _ _ _

theorem fpArith (h : Wrote i s u) (o1 o2 : FpOp) (g : FpFormat → FpVal → FpVal → FpVal) (n m : FReg) :
    Wrote i s (fpArith u o1 o2 g n m) := by
  unfold Machine.fpArith
  split
  · exact h.setDr _ _
  · exact h.setFr _ _

/-- A single bit of SR. -/
theorem flag (h : Wrote i s u) (k : Nat) (b : Bool) (hk : writesFlag i k = true) :
    Wrote i s { u with sr := setBit u.sr k b } :=
  { h with
    sr := fun hw j hj => by
      have hne : j ≠ k := fun e => by rw [e, hk] at hj; cases hj
      have hk32 : k < 32 := BitVec.lt_of_getLsbD (srMask_of_writesFlag hk)
      exact (getLsbD_setBit_ne hk32 hne).trans (h.sr hw j hj)
    srListed := fun hs => setBit_listed b (h.srListed hs) (srMask_of_writesFlag hk) }

theorem setT (h : Wrote i s u) (b : Bool) (hi : writesFlag i 0 = true) : Wrote i s (u.setT b) := h.flag 0 b hi
theorem setS (h : Wrote i s u) (b : Bool) (hi : writesFlag i 1 = true) : Wrote i s (u.setS b) := h.flag 1 b hi
theorem setQ (h : Wrote i s u) (b : Bool) (hi : writesFlag i 8 = true) : Wrote i s (u.setQ b) := h.flag 8 b hi
theorem setM (h : Wrote i s u) (b : Bool) (hi : writesFlag i 9 = true) : Wrote i s (u.setM b) := h.flag 9 b hi

/-- A whole-SR write: the unlisted bits read as 0 (R52). -/
theorem wholeSr (h : Wrote i s u) (v : Word) (hi : writesWholeSr i = true) :
    Wrote i s { u with sr := v &&& Config.srMask } :=
  { h with
    sr := fun hw => by rw [hi] at hw; cases hw
    srListed := fun _ => and_mask_listed v Config.srMask }

theorem setFpscr (h : Wrote i s u) (v : Word) : Wrote i s (u.setFpscr v) :=
  { h with fpscrListed := fun _ => and_mask_listed v Config.fpscrMask }

theorem fpscrBit (h : Wrote i s u) (k : Nat) (b : Bool) (hk : Config.fpscrMask.getLsbD k = true) :
    Wrote i s { u with fpscr := setBit u.fpscr k b } :=
  { h with fpscrListed := fun hs => setBit_listed b (h.fpscrListed hs) hk }

theorem setVbr (h : Wrote i s u) (v : Word) (hi : isPrivileged i = true) : Wrote i s { u with vbr := v } :=
  { h with vbr := fun hp => by rw [hi] at hp; cases hp }

theorem setSpc (h : Wrote i s u) (v : Word) (hi : loadsSpc i = true) : Wrote i s { u with spc := v } :=
  { h with spc := fun hp => by rw [hi] at hp; cases hp }

theorem setSsr (h : Wrote i s u) (v : Word) (hi : loadsSsr i = true) : Wrote i s { u with ssr := v } :=
  { h with ssr := fun hp => by rw [hi] at hp; cases hp }

theorem setSgr (h : Wrote i s u) (v : Word) (hi : loadsSgr i = true) : Wrote i s { u with sgr := v } :=
  { h with sgr := fun hp => by rw [hi] at hp; cases hp }

theorem setOther (h : Wrote i s u) (k : BankReg) (v : Word) (hi : isPrivileged i = true) :
    Wrote i s (u.setOther k v) :=
  { h with bankB := fun hp => by rw [hi] at hp; cases hp }

theorem sleeps (h : Wrote .sleep s u) : Wrote .sleep s { u with asleep := true } :=
  { h with asleep := fun hn => absurd rfl hn }

/-- The handler of region 7 sees an access only where there is a handler (R89). -/
theorem seen (h : Wrote i s u) (l : List SpecialAccess) (hl : s.cfg.special = .present) :
    Wrote i s { u with special := l } :=
  { h with special := fun ha => by rw [hl] at ha; cases ha }

theorem noteRead (h : Wrote i s u) {k : Access} {sz : Size} {ea : Word} {p : Place} (hp : s.check k sz ea = .ok p) :
    Wrote i s (u.noteRead sz p) := by
  obtain ⟨-, hloc, -⟩ := check_ok hp
  cases p with
  | mem loc => exact h
  | special a => exact h.seen _ (locate_special hloc).1

/-- A store to a place that the instruction's rule stores to (R96). -/
theorem storeTo (h : Wrote i s u) {sz : Size} {ea v : Word} {p : Place} (hp : s.check .write sz ea = .ok p)
    (hspan : ∀ x ∈ p.span sz.bytes, x ∈ storedSpans i s) : Wrote i s (u.storeTo sz v p) := by
  obtain ⟨-, hloc, hbound⟩ := check_ok hp
  cases p with
  | mem loc =>
    exact
      { h with
        memWf := fun w => storeAt_memWf (h.memWf w) hbound
        byte := fun w a ha =>
          (storeAt_outside (h.memWf w) hbound (ha _ (hspan _ (List.mem_singleton_self (loc, sz.bytes))))).trans (h.byte w a ha)
        stored := fun w => storeAt_storedWf (h.stored w) hbound }
  | special a =>
    have hseen := h.seen (.write sz.bytes a (sz.cut v) :: u.special) (locate_special hloc).1
    exact { hseen with stored := fun w => insertLocs_from (h.stored w) hbound }

end Wrote

/-! ### How an instruction ends -/

theorem State.advance_eq (s : State) : s.advance = { s with pc := s.nextPc, slot := none } := by
  cases h : s.slot with
  | none => rw [State.advance_of_none s h, State.nextPc_of_none h, ← h]
  | some t => rw [State.advance_of_some s h, State.nextPc_of_some h]

/-- How an instruction that answers a next state came to it. -/
inductive Ends (i : Instr) (s : State) : State → Prop
  /-- It made its writes and moved on. -/
  | moved {u : State} (h : Wrote i s u) : Ends i s u.advance
  /-- It made its writes and assigned the PC, which no instruction that a program can hold does in a delay slot. -/
  | assigned {u : State} {p : Word} {d : Option Slot} (h : Wrote i s u)
      (hpc : i.wf = true → assignsPc i = true ∧ s.slot = none)
      (hd : ∀ x, d = some x → x.rteMd ≠ some false) (hi : i ≠ .sleep) : Ends i s { u with pc := p, slot := d }
  /-- It entered a trap, where only the handler of region 7 may have seen reads before. -/
  | trapped {u : State} {e : Event} (hu : FetchedIn s u) (ht : u.TakesEvents) : Ends i s (trapEntry e u)

/-- Whenever the outcome is a next state, `i` came to it in one of the three ways. -/
def Answers (i : Instr) (s : State) (out : Out) : Prop := ∀ t, out = .next t → Ends i s t

theorem FetchedIn.noteRead {s : State} {k : Access} {sz : Size} {ea : Word} {p : Place} (hp : s.check k sz ea = .ok p) :
    FetchedIn s (s.noteRead sz p) := by
  obtain ⟨-, hloc, -⟩ := check_ok hp
  cases p with
  | mem loc => exact .refl s
  | special a => exact ⟨_, rfl, fun ha => by rw [(locate_special hloc).1] at ha; cases ha⟩

theorem FetchedIn.entersTrap {s u : State} (hu : FetchedIn s u) (ht : u.TakesEvents) (e : Event) :
    EntersTrap s (trapEntry e u) := by
  obtain ⟨seen, rfl, -⟩ := hu
  exact ⟨e, seen, rfl, ht⟩

section Answers

variable {i : Instr} {s : State} {k : Out}

theorem answers_refused (r : Refusal) : Answers i s (.refused r) := by
  intro t h
  cases h

theorem answers_raise (e : Event) : Answers i s (raise e s) := by
  intro t h
  obtain ⟨rfl, ht⟩ := raise_next h
  exact .trapped (.refl s) ht

theorem answers_done {u : State} (h : Wrote i s u) : Answers i s (done u) := by
  intro t ht
  obtain rfl := done_next ht
  exact .moved h

theorem answers_outsideSlot (h : s.slot = none → Answers i s k) : Answers i s (outsideSlot s k) := by
  intro t ht
  obtain ⟨hs, hk⟩ | ⟨e, rfl, hte⟩ := outsideSlot_next ht
  · exact h hs t hk
  · exact .trapped (.refl s) hte

theorem answers_privileged (h : Answers i s k) : Answers i s (privileged s k) := by
  intro t ht
  obtain ⟨-, hk⟩ | ⟨e, rfl, hte⟩ := privileged_next ht
  · exact h t hk
  · exact .trapped (.refl s) hte

theorem answers_fpu (h : Answers i s k) : Answers i s (fpu s k) := by
  intro t ht
  obtain ⟨-, hk⟩ | ⟨e, rfl, hte⟩ := fpu_next ht
  · exact h t hk
  · exact .trapped (.refl s) hte

theorem answers_evenField {f : FReg} (h : Answers i s k) : Answers i s (evenField s f k) :=
  fun t ht => h t (evenField_next ht).2

theorem answers_singleOnly (h : Answers i s k) : Answers i s (singleOnly s k) :=
  fun t ht => h t (singleOnly_next ht).2

theorem answers_doubleOnly {f : FReg} (h : Answers i s k) : Answers i s (doubleOnly s f k) :=
  fun t ht => h t (doubleOnly_next ht).2.2

theorem answers_rounding (h : Answers i s k) : Answers i s (rounding s k) :=
  fun t ht => h t (rounding_next ht).2

/-- Going on with an access, begun where the handler of region 7 may have seen reads. -/
theorem answers_orStop {α : Type} {u : State} (hu : FetchedIn s u) {x : Except Stop α} {f : α → Out} (h : ∀ a, x = .ok a → Answers i s (f a)) : Answers i s (orStop u x f) := by
  intro t ht
  obtain ⟨a, hx, ha⟩ | ⟨e, rfl, hte⟩ := orStop_next ht
  · exact h a hx t ha
  · exact .trapped hu hte

/-- An instruction that assigns the PC, outside a delay slot. -/
theorem answers_assigned {u : State} {p : Word} {d : Option Slot} (hs : s.slot = none) (h : Wrote i s u)
    (hpc : assignsPc i = true) (hd : ∀ x, d = some x → x.rteMd ≠ some false) :
    Answers i s (.next { u with pc := p, slot := d }) := by
  intro t ht
  cases ht
  exact .assigned h (fun _ => ⟨hpc, hs⟩) hd (by rintro rfl; cases hpc)

theorem answers_delayedBranch {u : State} {a : Word} (h : Wrote i s u) (hpc : assignsPc i = true) :
    Answers i s (outsideSlot s (delayedBranch u a)) :=
  answers_outsideSlot fun hs => answers_assigned hs h hpc fun x hx => by cases hx; simp

theorem answers_jumpTo {u : State} {a : Word} (h : Wrote i s u) (hpc : assignsPc i = true) :
    Answers i s (outsideSlot s (.next { u with pc := a })) :=
  answers_outsideSlot fun hs =>
    answers_assigned (d := u.slot) hs h hpc fun x hx => by rw [h.slot, hs] at hx; cases hx

theorem answers_readIn {e : Endian} {sz : Size} {ea : Word} {f : Loaded Word → Out}
    (h : ∀ p, s.check .read sz ea = .ok p → Answers i s (f ⟨s.valueAt e sz p, s.noteRead sz p⟩)) :
    Answers i s (orStop s (s.readIn e sz ea) f) := by
  refine answers_orStop (.refl s) fun a ha => ?_
  obtain ⟨p, hp, rfl⟩ := readIn_ok ha
  exact h p hp

theorem answers_loadReg {sz : Size} {ext : Word → Word} {ea : Word} {n : Reg} :
    Answers i s (loadReg s sz ext ea n) :=
  answers_readIn fun _ hp => answers_done ((Wrote.refl.noteRead hp).setR _ _)

theorem answers_loadInc {sz : Size} {ext : Word → Word} {m n : Reg} : Answers i s (loadInc s sz ext m n) :=
  answers_readIn fun _ hp => answers_done (((Wrote.refl.noteRead hp).setR _ _).setR _ _)

theorem answers_popLong {m : Reg} {put : State → Word → State}
    (h : ∀ u v, Wrote i s u → Wrote i s (put u v)) : Answers i s (popLong s m put) :=
  answers_readIn fun _ hp => answers_done (h _ _ ((Wrote.refl.noteRead hp).setR _ _))

/-- The two reads of a multiply and add, the second at the stepped register when the two are one (R199, R304). -/
theorem answers_twoReads {sz : Size} {n m : Reg} {step : Word} {f : Word → Word → State → State}
    (h : ∀ a b u, Wrote i s u → Wrote i s (f a b u)) :
    Answers i s (orStop s (s.read sz (s.r n)) fun a =>
      orStop a.state ((a.state.setR n (s.r n + step)).read sz ((a.state.setR n (s.r n + step)).r m)) fun b =>
        done (f a.value b.value (b.state.setR m ((a.state.setR n (s.r n + step)).r m + step)))) := by
  refine answers_readIn fun p hp => answers_orStop (.noteRead hp) fun b hb => ?_
  obtain ⟨q, hq, rfl⟩ := read_ok hb
  rw [check_setR, check_noteRead] at hq
  exact answers_done (h _ _ _ ((((Wrote.refl.noteRead hp).setR _ _).noteRead hq).setR _ _))

/-- A pop into a register that every mode may write. -/
theorem answers_popLong_plain {m : Reg} {put : State → Word → State}
    (h : put = fun u v => { u with
      gbr := (put u v).gbr, mach := (put u v).mach, macl := (put u v).macl, pr := (put u v).pr
      fpul := (put u v).fpul }) : Answers i s (popLong s m put) :=
  answers_popLong fun u v hu => by
    rw [h]
    exact hu.plain _ _ _ _ _ _ _ _ _ _

/-- The stretch that a store of one width stores to. -/
theorem storedSpans_eq {sz : Size} {ea : Word} {p : Place} (hd : dataAccess i s = some ⟨.write, some sz, ea⟩)
    (hp : s.check .write sz ea = .ok p) : storedSpans i s = p.span sz.bytes := by
  simp only [storedSpans, hd, hp]

theorem storedSpans_pair_eq {ea : Word} {hi lo : Place} (hd : dataAccess i s = some ⟨.write, none, ea⟩)
    (hp : s.checkPair .write ea = .ok (hi, lo)) : storedSpans i s = hi.span 4 ++ lo.span 4 := by
  simp only [storedSpans, hd, hp]

theorem Wrote.store {u : State} (h : Wrote i s u) {sz : Size} {ea v : Word} {p : Place}
    (hd : dataAccess i s = some ⟨.write, some sz, ea⟩) (hp : s.check .write sz ea = .ok p) :
    Wrote i s (u.storeTo sz v p) :=
  h.storeTo hp fun _ hx => storedSpans_eq hd hp ▸ hx

theorem answers_write {sz : Size} {ea v : Word} {f : State → Out}
    (h : ∀ p, s.check .write sz ea = .ok p → Answers i s (f (s.storeTo sz v p))) :
    Answers i s (orStop s (s.write sz ea v) f) := by
  refine answers_orStop (.refl s) fun a ha => ?_
  obtain ⟨p, hp, rfl⟩ := write_ok ha
  exact h p hp

theorem answers_storeVal {sz : Size} {ea v : Word} (hd : dataAccess i s = some ⟨.write, some sz, ea⟩) :
    Answers i s (storeVal s sz ea v) :=
  answers_write fun _ hp => answers_done (Wrote.refl.store hd hp)

theorem answers_pushVal {sz : Size} {n : Reg} {v : Word}
    (hd : dataAccess i s = some ⟨.write, some sz, s.r n - BitVec.ofNat 32 sz.bytes⟩) :
    Answers i s (pushVal s sz n v) :=
  answers_write fun _ hp => answers_done ((Wrote.refl.store hd hp).setR _ _)

/-- The read of a read-modify-write, and its write, which its first check has passed already. -/
theorem answers_readToModify {sz : Size} {ea : Word} {f : Loaded Word → Out}
    (h : ∀ p q, s.check .write sz ea = .ok p → s.check .read sz ea = .ok q →
      Answers i s (f ⟨s.valueAt s.cfg.endianLocal sz q, s.noteRead sz q⟩)) :
    Answers i s (orStop s (s.readToModify sz ea) f) := by
  refine answers_orStop (.refl s) fun a ha => ?_
  obtain ⟨⟨p, hp⟩, hr⟩ := readToModify_ok ha
  obtain ⟨q, hq, rfl⟩ := read_ok hr
  exact h p q hp hq

/-- The write that follows the read of a read-modify-write. -/
theorem answers_writeBack {sz : Size} {ea v : Word} {p q : Place} {f : State → Out}
    (hp : s.check .write sz ea = .ok p) (h : Answers i s (f ((s.noteRead sz q).storeTo sz v p))) :
    Answers i s (orStop (s.noteRead sz q) ((s.noteRead sz q).write sz ea v) f) := by
  rw [write_of_check ((check_noteRead s sz q .write sz ea).trans hp), orStop_ok]
  exact h

theorem answers_modifyByte {ea : Word} {f : Byte → Byte} (hd : dataAccess i s = some ⟨.write, some .b, ea⟩) :
    Answers i s (modifyByte s ea f) :=
  answers_readToModify fun _ _ hp hq => answers_writeBack hp (answers_done ((Wrote.refl.noteRead hq).store hd hp))

theorem answers_fmovLoad {ea : Word} {n : FReg} {after : State → State}
    (h : ∀ u, Wrote i s u → Wrote i s (after u)) : Answers i s (fmovLoad s ea n after) := by
  unfold fmovLoad
  split
  · refine answers_orStop (.refl s) fun a ha => ?_
    obtain ⟨hi, lo, hp, -, hstate⟩ := readPair_ok ha
    obtain ⟨-, hhi, hlo⟩ := checkPair_ok hp
    rw [hstate]
    exact answers_done (h _ (((Wrote.refl.noteRead hhi).noteRead hlo).setPair _ _))
  · exact answers_readIn fun _ hp => answers_done (h _ ((Wrote.refl.noteRead hp).setFr _ _))

theorem answers_fmovStore {ea : Word} {m : FReg} {after : State → State}
    (hd : dataAccess i s = some ⟨.write, s.fmovWidth, ea⟩) (h : ∀ u, Wrote i s u → Wrote i s (after u)) :
    Answers i s (fmovStore s ea m after) := by
  unfold fmovStore
  rw [State.fmovWidth] at hd
  split
  case isTrue hsz =>
    rw [if_pos hsz] at hd
    refine answers_orStop (.refl s) fun a ha => ?_
    obtain ⟨hi, lo, hp, rfl⟩ := writePair_ok ha
    obtain ⟨-, hhi, hlo⟩ := checkPair_ok hp
    have hspans := storedSpans_pair_eq hd hp
    exact answers_done (h _ ((Wrote.refl.storeTo hhi fun x hx => hspans ▸ List.mem_append_left _ hx).storeTo hlo
      fun x hx => hspans ▸ List.mem_append_right _ hx))
  case isFalse hsz =>
    rw [if_neg hsz] at hd
    exact answers_write fun _ hp => answers_done (h _ (Wrote.refl.store hd hp))

end Answers

/-! ### The reserved encodings -/

/-- The rows that are reserved encodings have one meaning (R150). -/
theorem exec_of_isReserved {i : Instr} (h : isReserved i = true) (s : State) : exec i s = raise s.illegal s := by
  cases i
  case stcUnk052 | movliL | movcoL | ocbi | ocbp | ocbwb | icbi | movrt | movuaL0 | movuaLInc0 | stcUnk04A
      | rtvN | mulr | movmuLPush | clipuB | clipsB | stbank | movmlLPush | stclUnk42 | stclUnk53 | divu | divs
      | movmuLPop | clipuW | clipsW | ldbank | movmlLPop | ldclUnk46 | ldclUnk57 | movuaL4 | movuaLInc4
      | ldcUnk4A | jsrN4B | movBStoreInc | movWStoreInc | movLStoreInc | movBLoadDec | movWLoadDec | movLLoadDec
      | ldcUnk5E | jsrN83 | bsetBclr | bstBld | fsrra | fipr | resFF | ldtlb | nott | resbank | rtsN | synco
      | fscaF0 | ftrv2F1 | fscaF2 | fscaF4 | ftrv2F5 | fscaF6 | fpchg | fscaF8 | ftrv2F9 | fscaFA | frchg
      | fscaFC | ftrv2FD | fscaFE | movi20 | movi20s | movBStoreD12 | movWStoreD12 | movLStoreD12 | fmovStoreD12
      | movBLoadD12 | movWLoadD12 | movLLoadD12 | fmovLoadD12 | movuBLoadD12 | movuWLoadD12 | bclrB | bsetB
      | bstB | bldB | bandB | borB | bxorB | bldnotB | bandnotB | bornotB => rfl
  all_goals cases h

/-! ### Every instruction -/

/-- The second instruction of a super-op runs in a state that has moved on, or not at all (R414). -/
theorem answers_inSequence {i : Instr} {s u : State} {first second : State → Out} (h : Wrote i s u)
    (hfirst : first s = done u) (hsecond : Answers i s (second u.advance)) :
    Answers i s (inSequence first second s) := by
  simp only [inSequence, hfirst, done]
  split
  · exact hsecond
  · exact answers_done h

/-- The branch of a super-op is in no delay slot, for the compare before it has moved on. -/
theorem answers_compareAndBranch {i : Instr} {s : State} {b : Bool} {target : State → Word}
    {first second : State → Out} (hfirst : first s = done (s.setT b))
    (hsecond : second = fun u => outsideSlot u (jumpTo u (target u)))
    (hi : writesFlag i 0 = true) (hwf : i.wf = false) : Answers i s (inSequence first second s) := by
  refine answers_inSequence (Wrote.refl.setT b hi) hfirst ?_
  simp only [hsecond]
  rw [outsideSlot_of_none _ (State.advance_slot _), State.advance_eq]
  intro t ht
  cases ht
  exact .assigned (u := s.setT b) (Wrote.refl.setT b hi) (fun hw => by rw [hwf] at hw; cases hw) nofun
    (by rintro rfl; cases hwf)

/-- The shift of a super-op moves on from where the first word has moved on to. -/
theorem answers_moveAndShift {i : Instr} {s : State} {n m : Reg} {v : Word} {w : State → Word}
    {first second : State → Out} (hfirst : first s = done (s.setR m v))
    (hsecond : second = fun u => done (u.setR n (w u))) (hwf : i.wf = false) :
    Answers i s (inSequence first second s) := by
  refine answers_inSequence (Wrote.refl.setR m v) hfirst ?_
  simp only [hsecond]
  rw [done, State.advance_eq, State.advance_eq (s.setR m v)]
  intro t ht
  cases ht
  exact .assigned (u := (s.setR m v).setR n _) ((Wrote.refl.setR m v).setR n _)
    (fun hw => by rw [hwf] at hw; cases hw) nofun (by rintro rfl; cases hwf)

/-- Through the arm of `exec` by its own lemma, where its outcome has to be seen as one of the shared shapes. -/
theorem answers_of_eq {i : Instr} {s : State} {out : Out} (he : exec i s = out) (h : Answers i s out) :
    Answers i s (exec i s) := he ▸ h

theorem answers_of_isPrivileged {i : Instr} (hi : isPrivileged i = true) (s : State) : Answers i s (exec i s) := by
  cases i
  case stcSr | stcVbr | stcSsr | stcSpc | stcSgr | stcBank =>
    exact answers_privileged (answers_done (Wrote.refl.setR _ _))
  case stclSgr | stclSr | stclVbr | stclSsr | stclSpc | stclBank => exact answers_privileged (answers_pushVal rfl)
  case ldcSr => exact answers_privileged (answers_done (Wrote.refl.wholeSr _ rfl))
  case ldcVbr => exact answers_privileged (answers_done (Wrote.refl.setVbr _ rfl))
  case ldcSsr => exact answers_privileged (answers_done (Wrote.refl.setSsr _ rfl))
  case ldcSpc => exact answers_privileged (answers_done (Wrote.refl.setSpc _ rfl))
  case ldcSgr => exact answers_privileged (answers_done (Wrote.refl.setSgr _ rfl))
  case ldcBank => exact answers_privileged (answers_done (Wrote.refl.setOther _ _ rfl))
  case ldclSr => exact answers_privileged (answers_popLong fun _ _ h => h.wholeSr _ rfl)
  case ldclVbr => exact answers_privileged (answers_popLong fun _ _ h => h.setVbr _ rfl)
  case ldclSsr => exact answers_privileged (answers_popLong fun _ _ h => h.setSsr _ rfl)
  case ldclSpc => exact answers_privileged (answers_popLong fun _ _ h => h.setSpc _ rfl)
  case ldclSgr => exact answers_privileged (answers_popLong fun _ _ h => h.setSgr _ rfl)
  case ldclBank => exact answers_privileged (answers_popLong fun _ _ h => h.setOther _ _ rfl)
  case sleep => exact answers_privileged (answers_done Wrote.refl.sleeps)
  case rte =>
    refine answers_outsideSlot fun hs t ht => ?_
    obtain ⟨hmd, hk⟩ | ⟨e, rfl, hte⟩ := privileged_next ht
    · refine answers_assigned hs (Wrote.refl.wholeSr s.ssr rfl) rfl (fun x hx => ?_) t hk
      cases hx
      simp [hmd]
    · exact .trapped (.refl s) hte
  all_goals cases hi

theorem answers_of_isFpu {i : Instr} (hi : isFpu i = true) (s : State) : Answers i s (exec i s) := by
  cases i
  case stsFpul | stsFpscr => exact answers_fpu (answers_done (Wrote.refl.setR _ _))
  case stslFpul | stslFpscr => exact answers_fpu (answers_pushVal rfl)
  case ldsFpul | flds => exact answers_fpu (answers_done (Wrote.refl.plain _ _ _ _ _ _ _ _ _ _))
  case ldsFpscr => exact answers_fpu (answers_done (Wrote.refl.setFpscr _))
  case ldslFpul => exact answers_fpu (answers_popLong_plain rfl)
  case ldslFpscr => exact answers_fpu (answers_popLong fun _ _ h => h.setFpscr _)
  case fschg => exact answers_fpu (answers_done (Wrote.refl.fpscrBit 20 _ rfl))
  case fsts | fneg | fabs => exact answers_fpu (answers_done (Wrote.refl.setFr _ _))
  case fldi0 | fldi1 => exact answers_fpu (answers_singleOnly (answers_done (Wrote.refl.setFr _ _)))
  case fmac => exact answers_fpu (answers_singleOnly (answers_rounding (answers_done (Wrote.refl.setFr _ _))))
  case fadd | fsub | fmul | fdiv =>
    exact answers_fpu (answers_evenField (answers_evenField (answers_rounding
      (answers_done (Wrote.refl.fpArith _ _ _ _ _)))))
  case fcmpeq | fcmpgt =>
    exact answers_fpu (answers_evenField (answers_evenField (answers_done (Wrote.refl.setT _ rfl))))
  case ftrc => exact answers_fpu (answers_evenField (answers_done (Wrote.refl.plain _ _ _ _ _ _ _ _ _ _)))
  case fcnvsd => exact answers_fpu (answers_doubleOnly (answers_done (Wrote.refl.setDr _ _)))
  case fcnvds =>
    exact answers_fpu (answers_doubleOnly (answers_rounding (answers_done (Wrote.refl.plain _ _ _ _ _ _ _ _ _ _))))
  case float =>
    refine answers_fpu (answers_evenField ?_)
    split
    · exact answers_done (Wrote.refl.setDr _ _)
    · exact answers_rounding (answers_done (Wrote.refl.setFr _ _))
  case fsqrt =>
    refine answers_fpu (answers_evenField (answers_rounding (answers_done ?_)))
    split
    · exact Wrote.refl.setDr _ _
    · exact Wrote.refl.setFr _ _
  case fmovR =>
    refine answers_fpu (answers_done ?_)
    split
    · exact Wrote.refl.setPair _ _
    · exact Wrote.refl.setFr _ _
  case fmovLoadIdx | fmovLoad => exact answers_fpu (answers_fmovLoad fun _ h => h)
  case fmovLoadInc => exact answers_fpu (answers_fmovLoad fun _ h => h.setR _ _)
  case fmovStoreIdx | fmovStore => exact answers_fpu (answers_fmovStore rfl fun _ h => h)
  case fmovPush => exact answers_fpu (answers_fmovStore rfl fun _ h => h.setR _ _)
  all_goals cases hi

/-- The branches and traps, and the other instructions that no delay slot may hold; `RTE` is a privileged one. -/
theorem answers_of_bannedInSlot {i : Instr} (hi : (bannedInSlot i && !isPrivileged i) = true) (s : State) :
    Answers i s (exec i s) := by
  cases i
  case bra | bsaf | jmp | rts | bts | bfs => exact answers_delayedBranch .refl rfl
  case bsr | bsrf | jsr => exact answers_delayedBranch (Wrote.refl.plain _ _ _ _ _ _ _ _ _ _) rfl
  case bt | bf => exact answers_jumpTo .refl rfl
  case movi24 => exact answers_jumpTo (Wrote.refl.setR _ _) rfl
  case trapa | brk => exact answers_outsideSlot fun _ => answers_raise _
  case mova => exact answers_outsideSlot fun _ => answers_done (Wrote.refl.setR _ _)
  case movWLoadPc | movLLoadPc =>
    exact answers_outsideSlot fun _ => answers_readIn fun _ hp => answers_done ((Wrote.refl.noteRead hp).setR _ _)
  all_goals cases hi

/-- The loads and stores that neither a mode nor the FPU bit keeps from running, by the access they begin with. -/
theorem answers_of_dataAccess {i : Instr} {s : State}
    (hi : (isPrivileged i || isFpu i || bannedInSlot i || !(dataAccess i s).isSome) = false) : Answers i s (exec i s) := by
  cases i
  case movBLoadIdx | movWLoadIdx | movLLoadIdx | movLLoadDisp | movBLoad | movWLoad | movLLoad | movBLoadDisp
      | movWLoadDisp | movBLoadGbr | movWLoadGbr | movLLoadGbr =>
    exact answers_loadReg
  case movBLoadInc | movWLoadInc | movLLoadInc => exact answers_loadInc
  case movcaL | movBStoreIdx | movWStoreIdx | movLStoreIdx | movLStoreDisp | movBStore | movWStore | movLStore
      | movBStoreDisp | movWStoreDisp | movBStoreGbr | movWStoreGbr | movLStoreGbr =>
    exact answers_storeVal rfl
  case movBPush | movWPush | movLPush | stslMach | stslMacl | stslPr | stclGbr => exact answers_pushVal rfl
  case ldslMach m => exact answers_of_eq (exec_ldslMach s m) (answers_popLong_plain rfl)
  case ldslMacl m => exact answers_of_eq (exec_ldslMacl s m) (answers_popLong_plain rfl)
  case ldslPr m => exact answers_of_eq (exec_ldslPr s m) (answers_popLong_plain rfl)
  case ldclGbr m => exact answers_of_eq (exec_ldclGbr s m) (answers_popLong_plain rfl)
  case tstBGbr imm =>
    exact answers_of_eq (exec_tstBGbr s imm)
      (answers_readIn fun _ hp => answers_done ((Wrote.refl.noteRead hp).setT _ rfl))
  case andBGbr imm => exact answers_of_eq (exec_andBGbr s imm) (answers_modifyByte rfl)
  case xorBGbr imm => exact answers_of_eq (exec_xorBGbr s imm) (answers_modifyByte rfl)
  case orBGbr imm => exact answers_of_eq (exec_orBGbr s imm) (answers_modifyByte rfl)
  case tasB m =>
    exact answers_of_eq (exec_tasB s m) (answers_readToModify fun _ _ hp hq =>
      answers_writeBack hp (answers_done (((Wrote.refl.noteRead hq).store rfl hp).setT _ rfl)))
  case casL n m =>
    refine answers_of_eq (exec_casL s n m) (answers_readToModify fun p q hp hq => ?_)
    split
    · exact answers_writeBack hp (answers_done ((((Wrote.refl.noteRead hq).store rfl hp).setT _ rfl).setR _ _))
    · exact answers_done (((Wrote.refl.noteRead hq).setT _ rfl).setR _ _)
  case macL n m =>
    exact answers_of_eq (exec_macL s n m)
      (answers_twoReads (f := fun a b u => u.setMac (macLongResult s.satS s.mac a b)) fun _ _ _ h => h.setMac _)
  case macW n m =>
    exact answers_of_eq (exec_macW s n m)
      (answers_twoReads (f := fun a b u => u.macWord (a.setWidth 16) (b.setWidth 16)) fun _ _ _ h => h.macWord _ _)
  all_goals cases hi

/-- What is left: operations on registers and flags alone, `XPFX`, and the super-ops. -/
theorem answers_of_registers {i : Instr} {s : State}
    (hi : (isReserved i || isPrivileged i || isFpu i || bannedInSlot i || (dataAccess i s).isSome) = false) :
    Answers i s (exec i s) := by
  cases i
  case nop | pref => exact answers_done .refl
  case xpfx0 => exact answers_refused _
  case stcGbr | movt | stsMach | stsMacl | stsPr | andR | xorR | orR | xtrct | subR | addR | shll2 | shll8 | shll16
      | shlr2 | shlr8 | shlr16 | shad | shld | movR | notR | swapB | swapW | neg | extuB | extuW | extsB | extsW | addI
      | ldsh8 | andI | xorI | orI | movI =>
    exact answers_done (Wrote.refl.setR _ _)
  case mulL | muluW | mulsW | dmuluL | dmulsL | clrmac | ldsMach | ldsMacl | ldsPr | ldcGbr =>
    exact answers_done (Wrote.refl.plain _ _ _ _ _ _ _ _ _ _)
  case tstR | cmpeqR | cmpeqI | tstI | cmpstr | cmphs | cmpge | cmphi | cmpgt | cmppz | cmppl | clrt | sett =>
    exact answers_done (Wrote.refl.setT _ rfl)
  case subc | subv | addc | addv | negc | shll | shal | shlr | shar | rotl | rotr | rotcl | rotcr | dt =>
    exact answers_done ((Wrote.refl.setR _ _).setT _ rfl)
  case clrs | sets => exact answers_done (Wrote.refl.setS _ rfl)
  case div0u => exact answers_done (((Wrote.refl.setM _ rfl).setQ _ rfl).setT _ rfl)
  case div0s => exact answers_done (((Wrote.refl.setQ _ rfl).setM _ rfl).setT _ rfl)
  case div1 => exact answers_done (((Wrote.refl.setR _ _).setQ _ rfl).setT _ rfl)
  case cmpbeq n m d => exact answers_of_eq (exec_cmpbeq s n m d) (answers_compareAndBranch rfl rfl rfl rfl)
  case cmpbne n m d => exact answers_of_eq (exec_cmpbne s n m d) (answers_compareAndBranch rfl rfl rfl rfl)
  case cmpbge n m d => exact answers_of_eq (exec_cmpbge s n m d) (answers_compareAndBranch rfl rfl rfl rfl)
  case cmpblt n m d => exact answers_of_eq (exec_cmpblt s n m d) (answers_compareAndBranch rfl rfl rfl rfl)
  case cmpbgt n m d => exact answers_of_eq (exec_cmpbgt s n m d) (answers_compareAndBranch rfl rfl rfl rfl)
  case cmpble n m d => exact answers_of_eq (exec_cmpble s n m d) (answers_compareAndBranch rfl rfl rfl rfl)
  case shadImm n m v => exact answers_of_eq (exec_shadImm s n m v) (answers_moveAndShift rfl rfl rfl)
  case shldImm n m v => exact answers_of_eq (exec_shldImm s n m v) (answers_moveAndShift rfl rfl rfl)
  all_goals cases hi

theorem answers_exec (i : Instr) (s : State) : Answers i s (exec i s) := by
  cases hres : isReserved i
  case true =>
    rw [exec_of_isReserved hres]
    exact answers_raise _
  cases hpriv : isPrivileged i
  case true => exact answers_of_isPrivileged hpriv s
  cases hfpu : isFpu i
  case true => exact answers_of_isFpu hfpu s
  cases hban : bannedInSlot i
  case true => exact answers_of_bannedInSlot (by rw [hban, hpriv]; rfl) s
  cases hd : (dataAccess i s).isSome
  case true => exact answers_of_dataAccess (by rw [hpriv, hfpu, hban, hd]; rfl)
  case false => exact answers_of_registers (by rw [hres, hpriv, hfpu, hban, hd]; rfl)

/-- How every instruction that answers a next state came to it: what the statements about all instructions rest on. -/
theorem exec_ends {i : Instr} {s t : State} (h : exec i s = .next t) : Ends i s t := answers_exec i s t h

end Sys2Proof.Machine
end

section
/-! SUPPORT. The statements on every instruction or step (O9, O12, O13, O15 to O19, O22 to O24), each read off from how
an instruction ends. -/

namespace Sys2Proof.Machine

/-! ### Reading off how an instruction ends -/

/-- A property of the next state that neither the PC nor the pending slot plays a part in: the writes have it, and a
trap entry has it. -/
theorem Ends.elim {i : Instr} {s t : State} {P : State → Prop} (h : Ends i s t)
    (hwrote : ∀ u p d, Wrote i s u → P { u with pc := p, slot := d })
    (htrap : ∀ u e, FetchedIn s u → u.TakesEvents → P (trapEntry e u)) : P t := by
  cases h with
  | moved hu => rw [State.advance_eq]; exact hwrote _ _ _ hu
  | assigned hu => exact hwrote _ _ _ hu
  | trapped hu ht => exact htrap _ _ hu ht

/-- As `Ends.elim`, where traps are told apart by the statement itself. -/
theorem Ends.trap_or {i : Instr} {s t : State} {P : State → Prop} (h : Ends i s t)
    (hwrote : ∀ u p d, Wrote i s u → P { u with pc := p, slot := d }) : EntersTrap s t ∨ P t :=
  h.elim (P := fun t => EntersTrap s t ∨ P t) (fun u p d hu => .inr (hwrote u p d hu))
    fun _ e hu ht => .inl (hu.entersTrap ht e)

/-! ### The PC (O9) -/

theorem Wrote.moved_advance {i : Instr} {s u : State} (h : Wrote i s u) :
    u.advance.pc = s.nextPc ∧ u.advance.slot = none :=
  ⟨(State.pc_advance u).trans (State.nextPc_congr h.pc h.slot), State.advance_slot u⟩

/-- An instruction that a program can hold moves on, or assigns the PC outside a delay slot, or enters a trap. -/
theorem Ends.moved_or {i : Instr} {s t : State} (h : Ends i s t) (hwf : i.wf = true) :
    (t.pc = s.nextPc ∧ t.slot = none) ∨ (assignsPc i = true ∧ s.slot = none) ∨ EntersTrap s t := by
  cases h with
  | moved hu => exact .inl hu.moved_advance
  | assigned _ hpc => exact .inr (.inl (hpc hwf))
  | trapped hu ht => exact .inr (.inr (hu.entersTrap ht _))

/-- Settles O9: what assigns the PC does so outside a delay slot. -/
theorem pcAfterInstruction : Obligations.PcAfterInstruction := by
  intro i s t hwf h
  have hends := (exec_ends h).moved_or hwf
  constructor
  · intro hi
    obtain hm | ⟨ha, -⟩ | ht := hends
    · exact .inl hm
    · rw [hi] at ha; cases ha
    · exact .inr ht
  · intro d hd
    obtain ⟨hpc, hslot⟩ | ⟨-, hs⟩ | ht := hends
    · exact .inl ⟨hpc.trans (State.nextPc_of_some hd), hslot⟩
    · rw [hd] at hs; cases hs
    · exact .inr ht

/-! ### The invariant (O12) -/

namespace State.Inv

variable {s t : State}

theorem pastBoundary (h : s.Inv) : s.pastBoundary.Inv := { h with }

theorem fetchedIn (h : s.Inv) (hu : FetchedIn s t) : t.Inv := by
  obtain ⟨seen, rfl, habs⟩ := hu
  exact { h with special := fun ha => (congrArg State.special (habs ha)).trans (h.special ha) }

/-- The bits that trap entry sets are listed ones (R445, R52). -/
theorem trapEntry (h : s.Inv) (e : Event) : (trapEntry e s).Inv :=
  { h with
    sr := by
      rw [State.srListed, and_not_eq_zero_iff]
      intro k hk
      rw [getLsbD_trapEntry_sr, (and_not_eq_zero_iff _ _).mp h.sr k hk, Bool.false_or, decide_eq_false_iff_not]
      rintro ⟨hlow, hhigh⟩
      have hlisted : ∀ j : Fin 31, 28 ≤ j.val → Config.srMask.getLsbD j.val = true := by decide
      rw [hlisted ⟨k, by omega⟩ hlow] at hk
      cases hk
    asleep := nofun
    rteMd := nofun }

/-- Writes that the classes of an instruction allow keep all that does not speak of the pending slot. -/
theorem wrote {i : Instr} {u : State} (h : s.Inv) (hu : Wrote i s u) {p : Word} {d : Option Slot}
    (hasleep : u.asleep = true → d = none) (hd : ∀ x, d = some x → x.rteMd ≠ some false) :
    ({ u with pc := p, slot := d } : State).Inv where
  mem := hu.memWf h.mem
  stored := hu.stored h.stored
  sr := hu.srListed h.sr
  fpscr := hu.fpscrListed h.fpscr
  asleep := hasleep
  rteMd := hd
  special hc := by
    have hs : s.cfg.special = .absent := hu.cfg ▸ hc
    exact (hu.special hs).trans (h.special hs)

theorem ends {i : Instr} (h : s.Inv) (hasleep : s.asleep = false) (hends : Ends i s t) : t.Inv := by
  cases hends with
  | moved hu => rw [State.advance_eq]; exact h.wrote hu (fun _ => rfl) nofun
  | assigned hu _ hd hi =>
    refine h.wrote hu (fun ha => ?_) hd
    rw [hu.asleep hi, hasleep] at ha
    cases ha
  | trapped hu _ => exact (h.fetchedIn hu).trapEntry _

end State.Inv

theorem FetchedIn.asleep_eq {s u : State} (h : FetchedIn s u) : u.asleep = s.asleep := by
  obtain ⟨seen, rfl, -⟩ := h
  rfl

/-- Settles O12, by what a step that answers a next state did. -/
theorem stepKeepsInvariant : Obligations.StepKeepsInvariant := by
  intro s t hinv h
  obtain ⟨level, -, rfl⟩ | ⟨-, -, rfl⟩ | ⟨-, -, u, e, hu, rfl, -⟩ | ⟨-, hawake, u, iw, iw2, i, hu, -, hi⟩ := step_next h
  · exact hinv.pastBoundary.trapEntry _
  · exact hinv.pastBoundary
  · exact (hinv.pastBoundary.fetchedIn hu).trapEntry e
  · exact (hinv.pastBoundary.fetchedIn hu).ends (hu.asleep_eq.trans hawake) (exec_ends hi)

/-! ### The reserved encodings, privileged instructions and delay slots (O22 to O24) -/

/-- What a reserved encoding and a privileged instruction in user mode raise, by whether a slot is pending. -/
theorem illegal_eq (s : State) : s.illegal = if s.slot = none then .illegalInstruction else .slotIllegal := by
  cases h : s.slot with
  | none => rw [illegal_of_none h, if_pos rfl]
  | some d => rw [illegal_of_some h, if_neg nofun]

/-- Settles O22. -/
theorem reservedEncodingsRaise : Obligations.ReservedEncodingsRaise := by
  intro i s hi ht
  rw [exec_of_isReserved hi, raise_of_takes ht, illegal_eq]

/-- A privileged instruction does what it does behind the check of SR.MD (R461), which in `RTE` comes after the check for
a delay slot. -/
theorem exec_eq_privileged {i : Instr} (h : isPrivileged i = true) (s : State) :
    ∃ k, exec i s = privileged s k ∨ exec i s = outsideSlot s (privileged s k) := by
  cases i
  case rte => exact ⟨_, .inr rfl⟩
  case stcSr | stcVbr | stcSsr | stcSpc | stcSgr | stcBank | stclSr | stclVbr | stclSsr | stclSpc | stclSgr | stclBank
      | ldcSr | ldcVbr | ldcSsr | ldcSpc | ldcSgr | ldcBank | ldclSr | ldclVbr | ldclSsr | ldclSpc | ldclSgr | ldclBank
      | sleep =>
    exact ⟨_, .inl rfl⟩
  all_goals cases h

theorem exec_of_privileged_user {i : Instr} {s : State} (h : isPrivileged i = true) (hmd : s.md = false) :
    exec i s = raise s.illegal s := by
  obtain ⟨k, hk | hk⟩ := exec_eq_privileged h s
  · rw [hk, privileged_of_user k hmd]
  · rw [hk, privileged_of_user k hmd]
    cases hs : s.slot with
    | none => rw [outsideSlot_of_none _ hs]
    | some d => rw [outsideSlot_of_some _ hs, illegal_of_some hs]

/-- Settles O23. -/
theorem privilegedInUserMode : Obligations.PrivilegedInUserMode := by
  intro i s hi hmd ht
  rw [exec_of_privileged_user hi hmd, raise_of_takes ht, illegal_eq]

/-- An instruction that no delay slot may hold begins with the check for one (R436, R440). -/
theorem exec_eq_outsideSlot {i : Instr} (h : bannedInSlot i = true) (s : State) :
    ∃ k, exec i s = outsideSlot s k := by
  cases i
  case bra | bsr | bsaf | bsrf | jmp | jsr | rts | rte | bt | bf | bts | bfs | movWLoadPc | movLLoadPc | mova | trapa
      | brk | movi24 =>
    exact ⟨_, rfl⟩
  all_goals cases h

/-- Settles O24. -/
theorem bannedInDelaySlot : Obligations.BannedInDelaySlot := by
  intro i s d hi hd ht
  obtain ⟨k, hk⟩ := exec_eq_outsideSlot hi s
  have hne : s.slot ≠ none := fun hs => by rw [hd] at hs; cases hs
  have hexec : exec i s = .next (trapEntry .slotIllegal s) := by
    rw [hk, outsideSlot_of_some k hd, raise_of_takes ht]
  exact ⟨_, hexec, rfl, (trapEntry_spc s _).trans (savedPc_of_slot hne nofun)⟩

/-! ### SR (O15, O16) -/

/-- The bits of SR that no single-bit write reaches. -/
theorem Wrote.bit {i : Instr} {s u : State} (h : Wrote i s u) (hw : writesWholeSr i = false) {k : Nat}
    (hk : k ≠ 0 ∧ k ≠ 1 ∧ k ≠ 8 ∧ k ≠ 9) : u.sr.getLsbD k = s.sr.getLsbD k := by
  refine h.sr hw k (Bool.eq_false_iff.mpr fun hf => ?_)
  have := flag_of_writesFlag hf
  omega

theorem Wrote.im {i : Instr} {s u : State} (h : Wrote i s u) (hw : writesWholeSr i = false) : u.im = s.im := by
  refine BitVec.eq_of_getLsbD_eq fun k hk => ?_
  rw [State.im, State.im, BitVec.getLsbD_extractLsb', BitVec.getLsbD_extractLsb', h.bit hw (by omega)]

theorem Wrote.md {i : Instr} {s u : State} (h : Wrote i s u) (hw : writesWholeSr i = false) : u.md = s.md :=
  h.bit hw (by decide)

/-- Settles O15: the single-bit writes reach none of these bits. -/
theorem modeBitsWriters : Obligations.ModeBitsWriters := by
  intro i s t h
  cases hw : writesWholeSr i with
  | true => exact .inr (.inl rfl)
  | false =>
    refine (exec_ends h).trap_or (P := fun t => false = true ∨ (t.im = s.im ∧ t.fd = s.fd ∧ t.bl = s.bl ∧ t.rb = s.rb
      ∧ t.md = s.md)) fun u p d hu => .inr ?_
    exact ⟨hu.im hw, hu.bit hw (by decide), hu.bit hw (by decide), hu.bit hw (by decide), hu.md hw⟩

theorem FetchedIn.sr_eq {s u : State} (h : FetchedIn s u) : u.sr = s.sr := by
  obtain ⟨seen, rfl, -⟩ := h
  rfl

/-- A flag that an instruction does not write is as before, after a trap too. -/
theorem Ends.flag {i : Instr} {s t : State} (h : Ends i s t) (hw : writesWholeSr i = false) {k : Nat} (hk : k < 28)
    (hf : writesFlag i k = false) : t.sr.getLsbD k = s.sr.getLsbD k := by
  refine h.elim (P := fun t => t.sr.getLsbD k = s.sr.getLsbD k) (fun u p d hu => hu.sr hw k hf) fun u e hu _ => ?_
  rw [getLsbD_trapEntry_sr_of_lt e u hk, hu.sr_eq]

theorem writesWholeSr_of_writesT {i : Instr} (h : writesT i = false) : writesWholeSr i = false := by
  unfold writesWholeSr
  split
  case h_4 => rfl
  all_goals cases h

theorem writesS_eq_false {i : Instr} (hc : i ≠ .clrs) (hs : i ≠ .sets) : writesS i = false := by
  unfold writesS
  split
  · exact absurd rfl hc
  · exact absurd rfl hs
  · rfl

theorem writesM_eq_false {i : Instr} (hu : i ≠ .div0u) (hs : ∀ n m, i ≠ .div0s n m) : writesM i = false := by
  unfold writesM
  split
  · exact absurd rfl hu
  · exact absurd rfl (hs _ _)
  · rfl

theorem writesQ_eq_false {i : Instr} (hu : i ≠ .div0u) (hs : ∀ n m, i ≠ .div0s n m) (h1 : ∀ n m, i ≠ .div1 n m) :
    writesQ i = false := by
  unfold writesQ
  split
  · exact absurd rfl hu
  · exact absurd rfl (hs _ _)
  · exact absurd rfl (h1 _ _)
  · rfl

/-- Settles O16, flag by flag. -/
theorem flagWriters : Obligations.FlagWriters := by
  intro i s t h
  have hends := exec_ends h
  refine ⟨fun hT => ?t, fun hw hc hs => ?s, fun hw hu hs => ⟨?m, fun h1 => ?q⟩⟩
  case t => exact hends.flag (writesWholeSr_of_writesT hT) (by decide) (by simp [writesFlag, hT])
  case s => exact hends.flag hw (by decide) (by simp [writesFlag, writesS_eq_false hc hs])
  case m => exact hends.flag hw (by decide) (by simp [writesFlag, writesM_eq_false hu hs])
  case q => exact hends.flag hw (by decide) (by simp [writesFlag, writesQ_eq_false hu hs h1])

/-! ### Memory (O17) -/

theorem FetchedIn.mem_eq {s u : State} (h : FetchedIn s u) : u.mem = s.mem := by
  obtain ⟨seen, rfl, -⟩ := h
  rfl

/-- Settles O17: a trap entry stores nothing, and the writes of an instruction store to its stretches alone. -/
theorem memoryFrame : Obligations.MemoryFrame := by
  intro i s t hwf h a ha
  refine (exec_ends h).elim (P := fun t => memGet t.mem a = memGet s.mem a) (fun u p d hu => hu.byte hwf a ha)
    fun u e hu _ => ?_
  rw [trapEntry_mem, hu.mem_eq]

/-! ### The parameters and DBR (O18) -/

theorem FetchedIn.cfg_dbr_eq {s u : State} (h : FetchedIn s u) : u.cfg = s.cfg ∧ u.dbr = s.dbr := by
  obtain ⟨seen, rfl, -⟩ := h
  exact ⟨rfl, rfl⟩

theorem Ends.cfg_dbr_eq {i : Instr} {s t : State} (h : Ends i s t) : t.cfg = s.cfg ∧ t.dbr = s.dbr :=
  h.elim (P := fun t => t.cfg = s.cfg ∧ t.dbr = s.dbr) (fun _ _ _ hu => ⟨hu.cfg, hu.dbr⟩) fun _ _ hu _ => hu.cfg_dbr_eq

/-- Settles O18, by what a step did. -/
theorem parametersAndDbrConstant : Obligations.ParametersAndDbrConstant := by
  intro s t h
  obtain ⟨level, -, rfl⟩ | ⟨-, -, rfl⟩ | ⟨-, -, u, e, hu, rfl, -⟩ | ⟨-, -, u, iw, iw2, i, hu, -, hi⟩ := step_next h
  · exact ⟨rfl, rfl⟩
  · exact ⟨rfl, rfl⟩
  · exact hu.cfg_dbr_eq
  · obtain ⟨hcfg, hdbr⟩ := (exec_ends hi).cfg_dbr_eq
    obtain ⟨hcfg', hdbr'⟩ := hu.cfg_dbr_eq
    exact ⟨hcfg.trans hcfg', hdbr.trans hdbr'⟩

/-! ### Saved state while SR.BL = 1 (O19) -/

theorem not_entersTrap_of_bl {s t : State} (h : s.bl = true) : ¬ EntersTrap s t := by
  rintro ⟨e, seen, -, hbl, -⟩
  rw [h] at hbl
  cases hbl

theorem loadsSpc_eq_false {i : Instr} (h : ∀ m, i ≠ .ldcSpc m) (hl : ∀ m, i ≠ .ldclSpc m) : loadsSpc i = false := by
  unfold loadsSpc
  split
  · exact absurd rfl (h _)
  · exact absurd rfl (hl _)
  · rfl

theorem loadsSsr_eq_false {i : Instr} (h : ∀ m, i ≠ .ldcSsr m) (hl : ∀ m, i ≠ .ldclSsr m) : loadsSsr i = false := by
  unfold loadsSsr
  split
  · exact absurd rfl (h _)
  · exact absurd rfl (hl _)
  · rfl

theorem loadsSgr_eq_false {i : Instr} (h : ∀ m, i ≠ .ldcSgr m) (hl : ∀ m, i ≠ .ldclSgr m) : loadsSgr i = false := by
  unfold loadsSgr
  split
  · exact absurd rfl (h _)
  · exact absurd rfl (hl _)
  · rfl

/-- Settles O19: no trap is entered, so the writes are those of the instruction. -/
theorem savedStateWhileBlocked : Obligations.SavedStateWhileBlocked := by
  intro i s t hbl h
  have hends := exec_ends h
  have hwrites := hends.trap_or (P := fun t => (loadsSpc i = false → t.spc = s.spc)
    ∧ (loadsSsr i = false → t.ssr = s.ssr) ∧ (loadsSgr i = false → t.sgr = s.sgr))
    fun u p d hu => ⟨hu.spc, hu.ssr, hu.sgr⟩
  obtain ⟨hspc, hssr, hsgr⟩ := hwrites.resolve_left (not_entersTrap_of_bl hbl)
  refine ⟨fun h1 h2 => hspc (loadsSpc_eq_false h1 h2), fun h1 h2 => hssr (loadsSsr_eq_false h1 h2),
    fun h1 h2 => hsgr (loadsSgr_eq_false h1 h2), fun hwf hi => ?_⟩
  obtain hm | ⟨ha, -⟩ | ht := hends.moved_or hwf
  · exact hm
  · rw [hi] at ha; cases ha
  · exact absurd ht (not_entersTrap_of_bl hbl)

/-! ### User mode (O13) -/

theorem onB_of_user {s : State} (h : s.md = false) : s.onB = false := by
  have hbit : s.sr.getLsbD 30 = false := h
  rw [State.onB]
  cases s.cfg.bankSelect with
  | byMd => exact hbit
  | byMdAndRb => rw [bankIsB, hbit, Bool.false_and]

theorem exec_user {i : Instr} {s t : State} (hmd : s.md = false) (h : exec i s = .next t) :
    EntersTrap s t ∨ (t.md = false ∧ SameSupervisorState s t) := by
  cases hpriv : isPrivileged i with
  | true =>
    rw [exec_of_privileged_user hpriv hmd] at h
    obtain ⟨rfl, ht⟩ := raise_next h
    exact .inl ((FetchedIn.refl s).entersTrap ht _)
  | false =>
    refine (exec_ends h).trap_or (P := fun t => t.md = false ∧ SameSupervisorState s t) fun u p d hu =>
      ⟨(hu.md (writesWholeSr_of_user hpriv)).trans hmd, ?_⟩
    exact
      { vbr := hu.vbr hpriv
        ssr := hu.ssr (loadsSsr_of_user hpriv)
        spc := hu.spc (loadsSpc_of_user hpriv)
        sgr := hu.sgr (loadsSgr_of_user hpriv)
        dbr := hu.dbr
        bankB := hu.bankB hpriv (onB_of_user hmd) }

/-- An interrupt is accepted only when events are taken (R451). -/
theorem takesEvents_of_accepted {s : State} {level : BitVec 4} (h : s.accepted = some level) :
    s.pastBoundary.TakesEvents := by
  unfold State.accepted at h
  split at h
  · split at h
    · rename_i hc
      simp only [Bool.and_eq_true, Bool.not_eq_true', Option.isNone_iff_eq_none] at hc
      obtain ⟨⟨hbl, hslot⟩, -⟩ := hc
      exact ⟨hbl, inRteSlot_of_none (s := s.pastBoundary) hslot⟩
    · cases h
  · cases h

theorem EntersTrap.of_fetchedIn {s u t : State} (hu : FetchedIn s u) (h : EntersTrap u t) : EntersTrap s t := by
  obtain ⟨seen, rfl, -⟩ := hu
  obtain ⟨e, seen', rfl, ht⟩ := h
  exact ⟨e, seen', rfl, ht⟩

/-- Settles O13: an instruction that is not privileged cannot write these registers, and a privileged one enters a
trap. -/
theorem userModeIsolation : Obligations.UserModeIsolation := by
  intro s t hmd h
  obtain ⟨level, ha, rfl⟩ | ⟨-, -, rfl⟩ | ⟨-, -, u, e, hu, rfl, ht⟩ | ⟨-, -, u, iw, iw2, i, hu, -, hi⟩ := step_next h
  · exact .inr ((FetchedIn.refl _).entersTrap (takesEvents_of_accepted ha) _)
  · exact .inl ⟨hmd, ⟨rfl, rfl, rfl, rfl, rfl, rfl⟩⟩
  · exact .inr (hu.entersTrap ht e)
  · obtain ⟨seen, rfl, -⟩ := id hu
    obtain ht | ⟨hmd', hvbr, hssr, hspc, hsgr, hdbr, hbank⟩ := exec_user (s := { s.pastBoundary with special := seen }) hmd hi
    · exact .inr (ht.of_fetchedIn hu)
    · exact .inl ⟨hmd', hvbr, hssr, hspc, hsgr, hdbr, hbank⟩

end Sys2Proof.Machine
end

section
/-! SUPPORT. The statements on a step around its instruction, the launch of a run, traps and their return (O6 to O8, O10,
O11, O26, O29, O30). -/

namespace Sys2Proof.Machine

/-! ### The launch of a run (O10, O11) -/

theorem launch_pc_even (r : ResetValues) : r.pc.getLsbD 0 = false := by
  have hlow : (r.pcUpper ++ 0#1).getLsbD 0 = (0#1).getLsbD 0 := by
    rw [BitVec.getLsbD_append, if_pos (by decide)]
  exact hlow.trans rfl

/-- No request is presented at the first boundary of a run (R80). -/
theorem launch_accepted (r : ResetValues) (cfg : Config) (image : List (Word × Byte))
    (later : List (Option (BitVec 4))) : (State.launch r cfg image later).accepted = none := by
  cases later <;> rfl

/-- Settles O10. -/
theorem resetState : Obligations.ResetState := by
  intro r cfg image later
  exact ⟨rfl, launch_pc_even r, rfl, rfl, rfl, rfl, rfl, rfl, rfl, rfl, rfl, rfl, rfl, rfl, rfl, rfl, rfl, rfl, rfl,
    memGet_loadImage image, rfl, rfl, launch_accepted r cfg image later, requestsFromReset_tail later, rfl, rfl, rfl,
    rfl, rfl, rfl, rfl, rfl, rfl, rfl⟩

theorem inv_launch (r : ResetValues) (cfg : Config) (image : List (Word × Byte)) (later : List (Option (BitVec 4))) :
    (State.launch r cfg image later).Inv where
  mem := loadImage_wf image
  stored := rfl
  sr := and_mask_listed r.sr Config.srMask
  fpscr := and_mask_listed r.fpscr Config.fpscrMask
  asleep := nofun
  rteMd := nofun
  special _ := rfl

/-- Settles O11. -/
theorem resetMeetsInvariant : Obligations.ResetMeetsInvariant :=
  fun r cfg image later => ⟨inv_launch r cfg image later, inv_launch r cfg [] []⟩

/-! ### Fetch, decode, and the instruction (O6) -/

theorem step_awake {s : State} (ha : s.accepted = none) (hs : s.asleep = false) :
    step s = runInstruction s.pastBoundary := by
  rw [step, ha]
  exact if_neg (by rw [hs]; exact Bool.false_ne_true)

/-- Of a state after fetches, what the taking of an event looks at is as before them. -/
theorem FetchedIn.illegal_eq {s u : State} (h : FetchedIn s u) : u.illegal = s.illegal := by
  obtain ⟨seen, rfl, -⟩ := h
  rfl

theorem FetchedIn.takesEvents_iff {s u : State} (h : FetchedIn s u) : u.TakesEvents ↔ s.TakesEvents := by
  obtain ⟨seen, rfl, -⟩ := h
  rfl

theorem orStop_event {α : Type} {s : State} {x : Except Stop α} {e : Event} (k : α → Out)
    (hx : x = .error (.event e)) (ht : s.TakesEvents) : orStop s x k = .next (trapEntry e s) := by
  rw [hx]
  exact raise_of_takes ht

section StepRunsDecoded

variable {s : State} {a b : Loaded Half}

theorem step_of_fetch (ha : s.accepted = none) (hs : s.asleep = false)
    (hf : s.pastBoundary.fetch s.fetchMd s.pc = .ok a) (htwo : isTwoWord a.value = false) :
    step s = runDecoded (decode a.value 0) a.state := by
  have hf' : s.pastBoundary.fetch s.pastBoundary.fetchMd s.pastBoundary.pc = .ok a := hf
  rw [step_awake ha hs, runInstruction, hf', orStop_ok, if_neg (by rw [htwo]; exact Bool.false_ne_true)]

theorem step_of_firstFetch (ha : s.accepted = none) (hs : s.asleep = false)
    (hf : s.pastBoundary.fetch s.fetchMd s.pc = .ok a) (htwo : isTwoWord a.value = true) :
    step s = orStop a.state (a.state.fetch s.fetchMd (s.pc + 2)) fun b =>
      runDecoded (decode a.value b.value) b.state := by
  have hf' : s.pastBoundary.fetch s.pastBoundary.fetchMd s.pastBoundary.pc = .ok a := hf
  rw [step_awake ha hs, runInstruction, hf', orStop_ok, if_pos htwo]
  rfl

end StepRunsDecoded

/-- Settles O6, by the outcome of each fetch. -/
theorem stepRunsDecoded : Obligations.StepRunsDecoded := by
  rintro s u a b i e ha hs rfl
  refine ⟨fun hf htwo hd => ?_, fun hf htwo hd => ?_, fun hf htwo hf2 hd => ?_, fun hf ht => ?_,
    fun hf htwo hf2 ht => ?_⟩
  · rw [step_of_fetch ha hs hf htwo, hd]
    rfl
  · obtain ⟨r, hd⟩ := hd
    rw [step_of_fetch ha hs hf htwo, runDecoded_of_error hd, ((FetchedIn.refl _).fetch hf).illegal_eq]
    rfl
  · rw [step_of_firstFetch ha hs hf htwo, hf2, orStop_ok, hd]
    rfl
  · rw [step_awake ha hs]
    exact orStop_event _ hf ht
  · rw [step_of_firstFetch ha hs hf htwo]
    exact orStop_event _ hf2 (((FetchedIn.refl _).fetch hf).takesEvents_iff.mpr ht)

/-! ### What a fetch reads (O7) -/

theorem fetch_of_locate {s : State} {md : Bool} {a : Word} {p : Place} (ha : a.getLsbD 0 = false)
    (hp : s.locate .fetch md a = .ok p)
    (hs : s.cfg.ifetch = .coherent ∨ (p.loc ∉ s.stored ∧ p.loc + 1 ∉ s.stored)) :
    s.fetch md a = .ok (s.fetchFrom p) := by
  rw [State.fetch, if_neg (by rw [ha]; exact Bool.false_ne_true), hp]
  refine if_neg ?_
  rcases hs with hs | ⟨h0, h1⟩
  · simp [hs]
  · simp [h0, h1]

/-- In user mode regions 4 to 7 are an address error (R88). -/
theorem locate_user {s : State} {k : Access} {ea : Word} (h : s.cfg.addrMode = .sh4) (hmsb : ea.msb = true) :
    s.locate k false ea = .error (.event (.addressError k ea)) := by
  have hregion : (ea.extractLsb' 29 3).msb = true := by
    rw [← hmsb]
    simp [BitVec.msb_eq_getLsbD_last]
  simp [State.locate, h, hregion]

/-- Settles O7, check by check in the order of a fetch. -/
theorem fetchReadsMemory : Obligations.FetchReadsMemory := by
  intro s md a
  refine ⟨fun h => ?odd, fun h h4 hmd hmsb => ?user, fun p h hp hr hst => ?stored, fun loc h hp hst => ?memory,
    fun b h hp hst => ?special⟩
  case odd => exact if_pos h
  case user =>
    subst hmd
    rw [State.fetch, if_neg (by rw [h]; exact Bool.false_ne_true), locate_user h4 hmsb]
  case stored =>
    rw [State.fetch, if_neg (by rw [h]; exact Bool.false_ne_true), hp]
    exact if_pos (by simpa [hr] using hst)
  case memory =>
    rw [fetch_of_locate h hp hst]
    cases he : s.cfg.endian <;> simp [State.fetchFrom, wordOfBytes, he]
  case special =>
    obtain ⟨-, rfl⟩ := locate_special hp
    have hlow : ∀ v : Word, v.setWidth 16 = v.extractLsb' 0 16 := fun v => BitVec.setWidth_eq_extractLsb' (by decide)
    exact ⟨rfl, by rw [fetch_of_locate h hp hst, State.fetchFrom, hlow]⟩

/-! ### Interrupts and sleep (O8) -/

theorem accepted_of_request {s : State} {level : BitVec 4} {rest : List (Option (BitVec 4))}
    (h : s.irqs = some level :: rest) (hbl : s.bl = false) (hslot : s.slot = none) (him : s.im < level) :
    s.accepted = some level := by
  have hult : s.im.ult level = true := by simpa [BitVec.ult_eq_decide, BitVec.lt_def] using him
  simp [State.accepted, h, hbl, hslot, hult]

theorem accepted_eq_none {s : State} {level : BitVec 4} {rest : List (Option (BitVec 4))}
    (h : s.irqs = some level :: rest) (hno : s.bl = true ∨ s.slot ≠ none ∨ level ≤ s.im) : s.accepted = none := by
  rw [State.accepted, h]
  refine if_neg ?_
  rcases hno with hbl | hslot | him
  · simp [hbl]
  · simp [hslot]
  · simp [BitVec.ult_eq_decide, BitVec.le_def.mp him]

theorem step_asleep {s : State} (hs : s.asleep = true) (ha : s.accepted = none) : step s = runAsleep s := by
  rw [step, ha]
  exact if_pos hs

theorem runAsleep_of_ne_nil {s : State} (h : s.irqs ≠ []) : runAsleep s = .next s.pastBoundary := by
  unfold runAsleep
  split
  · exact absurd ‹_› h
  · rfl

/-- Settles O8: by whether the request is accepted, and by whether the agent is awake. -/
theorem interruptsAndSleep : Obligations.InterruptsAndSleep := by
  intro s level rest
  refine ⟨fun h hbl hslot him => ?taken, fun h hno => ?notAccepted, fun hs ha hne => ?waits, fun hs hnil => ?stuck⟩
  case taken =>
    have hstep : step s = .next (trapEntry (.interrupt level) { s with irqs := rest }) := by
      rw [step, accepted_of_request h hbl hslot him, State.pastBoundary, h, List.tail_cons]
    exact ⟨_, hstep, rfl, rfl, rfl, State.im_trapEntry _ _, rfl⟩
  case notAccepted =>
    have ha := accepted_eq_none h hno
    have hpast : ({ s with irqs := none :: rest } : State).pastBoundary = s.pastBoundary := by
      simp [State.pastBoundary, h]
    rcases Bool.eq_false_or_eq_true s.asleep with hs | hs
    · have hquiet := step_asleep (s := { s with irqs := none :: rest }) hs rfl
      rw [step_asleep hs ha, hquiet, runAsleep_of_ne_nil (by simp [h]), runAsleep_of_ne_nil (by simp), hpast]
    · have hquiet := step_awake (s := { s with irqs := none :: rest }) rfl hs
      rw [step_awake ha hs, hquiet, hpast]
  case waits =>
    rw [step_asleep hs ha, runAsleep_of_ne_nil hne]
    rfl
  case stuck =>
    have ha : s.accepted = none := by rw [State.accepted, hnil]
    rw [step_asleep hs ha, runAsleep, hnil]

/-! ### Traps and their return (O26, O29, O30) -/

theorem takesEvents_of_none {s : State} (hslot : s.slot = none) (hbl : s.bl = false) : s.TakesEvents :=
  ⟨hbl, inRteSlot_of_none hslot⟩

theorem raise_of_bl {s : State} (hslot : s.slot = none) (hbl : s.bl = true) (e : Event) :
    raise e s = .refused .eventWhileBlocked := by
  rw [raise, inRteSlot_of_none hslot, if_neg Bool.false_ne_true, if_pos hbl]

/-- Settles O26. -/
theorem trapaAndBreakpoint : Obligations.TrapaAndBreakpoint := by
  intro imm s hslot
  have htrapa : exec (.trapa imm) s = raise (.trap imm) s := outsideSlot_of_none _ hslot
  have hbrk : exec .brk s = raise .breakpoint s := outsideSlot_of_none _ hslot
  rw [htrapa, hbrk]
  refine ⟨fun hbl => ?_, fun hbl => ⟨raise_of_bl hslot hbl _, raise_of_bl hslot hbl _⟩⟩
  have ht := takesEvents_of_none hslot hbl
  exact ⟨raise_of_takes ht, savedPc_trap_of_none hslot imm, raise_of_takes ht, savedPc_breakpoint_of_none hslot⟩

theorem exec_rte_of_supervisor {s : State} (hslot : s.slot = none) (hmd : s.md = true) :
    exec .rte s = .next { s with
      sr := s.ssr &&& Config.srMask, pc := s.pc + 2, slot := some { target := s.spc, rteMd := some true } } := by
  rw [exec_rte, execRte, outsideSlot_of_none _ hslot, privileged_of_md _ hmd, returnFromException, hmd]

/-- Settles O29. -/
theorem returnFromExceptionLaw : Obligations.ReturnFromException := fun _ hslot hmd =>
  exec_rte_of_supervisor hslot hmd

/-- A word with listed bits only is not changed by the mask. -/
theorem and_mask_of_listed {w mask : Word} (h : w &&& ~~~mask = 0) : w &&& mask = w := by
  refine BitVec.eq_of_getLsbD_eq fun k _ => ?_
  rw [BitVec.getLsbD_and]
  cases hm : mask.getLsbD k with
  | true => rw [Bool.and_true]
  | false => rw [Bool.and_false, (and_not_eq_zero_iff w mask).mp h k hm]

/-- The state that `RTE` and the `NOP` of its slot make of a trap's (R445, R455). -/
def afterReturn (e : Event) (s : State) : State :=
  { trapEntry e s with sr := s.sr &&& Config.srMask, pc := savedPc s e, slot := none }

/-- Settles O30: after the trap `RTE` finds a supervisor outside a delay slot, and the saved SR comes through its mask
unchanged, so that the bank mapping is the old one. -/
theorem trapThenReturn : Obligations.TrapThenReturn := by
  intro e s hsr
  have hmask : s.sr &&& Config.srMask = s.sr := and_mask_of_listed hsr
  have honB : (afterReturn e s).onB = s.onB := congrArg (bankIsB s.cfg.bankSelect) hmask
  refine ⟨_, afterReturn e s, exec_rte_of_supervisor (trapEntry_slot s e) (State.md_trapEntry e s), rfl, rfl, hmask, rfl,
    State.r_congr rfl rfl rfl honB, State.other_congr rfl rfl honB, rfl, rfl, rfl, ⟨rfl, rfl, rfl⟩,
    ⟨rfl, rfl, rfl, rfl⟩, ⟨fun _ => rfl, rfl⟩, rfl, rfl⟩

end Sys2Proof.Machine
end

section
/-! SUPPORT. The results of the instructions without a data access: registers, flags, special registers, branches, the
steps of a division and the super-ops (O33, O38, O42 to O44, O51, O60). -/

namespace Sys2Proof.Machine

/-! ### One register (O33) -/

theorem zextByte_eq_and (v : Word) : zextByte v = v &&& 0xFF := by
  apply BitVec.eq_of_toNat_eq
  rw [zextByte, BitVec.toNat_setWidth_of_le (by decide), BitVec.toNat_setWidth, BitVec.toNat_and]
  exact (Nat.and_two_pow_sub_one_eq_mod _ 8).symm

theorem zextHalf_eq_and (v : Word) : zextHalf v = v &&& 0xFFFF := by
  apply BitVec.eq_of_toNat_eq
  rw [zextHalf, BitVec.toNat_setWidth_of_le (by decide), BitVec.toNat_setWidth, BitVec.toNat_and]
  exact (Nat.and_two_pow_sub_one_eq_mod _ 16).symm

theorem not_eq_xor (v : Word) : ~~~v = v ^^^ 0xFFFFFFFF := (BitVec.xor_allOnes (x := v)).symm

theorem wordOfBool_eq_ite (t : Bool) : wordOfBool t = if t then 1 else 0 := by
  cases t <;> rfl

theorem sextByte_eq (v : Word) : sextByte v = (v.extractLsb' 0 8).signExtend 32 :=
  congrArg (BitVec.signExtend 32) (BitVec.setWidth_eq_extractLsb' (by decide))

theorem sextHalf_eq (v : Word) : sextHalf v = (v.extractLsb' 0 16).signExtend 32 :=
  congrArg (BitVec.signExtend 32) (BitVec.setWidth_eq_extractLsb' (by decide))

/-- A shift to the right is a division by a power of two (R282). -/
theorem ushiftRight_eq_div (v : Word) {k : Nat} (h : k < 32) : v >>> k = v / BitVec.twoPow 32 k :=
  (BitVec.udiv_twoPow_eq_of_lt h).symm

/-- Settles O33: each instruction writes one register; what is left is the value in the form of the statement. -/
theorem registerResults : Obligations.RegisterResults := by
  intro s n m imm
  exact ⟨regResult_of_done (exec_movR s n m) rfl, regResult_of_done (exec_movI s n imm) rfl,
    regResult_of_done (exec_addR s n m) rfl, regResult_of_done (exec_addI s n imm) rfl,
    regResult_of_done (exec_subR s n m) rfl, regResult_of_done (exec_neg s n m) (BitVec.zero_sub _),
    regResult_of_done (exec_andR s n m) rfl, regResult_of_done (exec_orR s n m) rfl,
    regResult_of_done (exec_xorR s n m) rfl, regResult_of_done (exec_notR s n m) (not_eq_xor _),
    regResult_of_done (exec_andI s imm) rfl, regResult_of_done (exec_orI s imm) rfl,
    regResult_of_done (exec_xorI s imm) rfl, regResult_of_done (exec_extuB s n m) (zextByte_eq_and _),
    regResult_of_done (exec_extuW s n m) (zextHalf_eq_and _), regResult_of_done (exec_extsB s n m) (sextByte_eq _),
    regResult_of_done (exec_extsW s n m) (sextHalf_eq _), regResult_of_done (exec_swapB s n m) rfl,
    regResult_of_done (exec_swapW s n m) rfl, regResult_of_done (exec_xtrct s n m) rfl,
    regResult_of_done (exec_shll2 s n) (BitVec.shiftLeft_eq_mul_twoPow _ 2),
    regResult_of_done (exec_shll8 s n) (BitVec.shiftLeft_eq_mul_twoPow _ 8),
    regResult_of_done (exec_shll16 s n) (BitVec.shiftLeft_eq_mul_twoPow _ 16),
    regResult_of_done (exec_shlr2 s n) (ushiftRight_eq_div _ (by decide)),
    regResult_of_done (exec_shlr8 s n) (ushiftRight_eq_div _ (by decide)),
    regResult_of_done (exec_shlr16 s n) (ushiftRight_eq_div _ (by decide)),
    regResult_of_done (exec_movt s n) (wordOfBool_eq_ite _), regResult_of_done (exec_ldsh8 s imm) rfl⟩

/-! ### Flags and hints (O42) -/

theorem KeepsExcept.setS {s u : State} {regs : List Reg} {bits : List Nat} (h : KeepsExcept s u regs bits) (b : Bool)
    (hb : 1 ∈ bits) : KeepsExcept s (u.setS b) regs bits := h.setSrBit b hb (by decide)

@[simp] theorem State.satS_setS_advance (s : State) (b : Bool) : (s.setS b).advance.satS = b := by simp [State.satS]

theorem frame_setS_advance (s : State) (b : Bool) :
    Frame s (s.setS b).advance [] [1] ∧ SameAcc s (s.setS b).advance ∧ SameFpu s (s.setS b).advance
      ∧ SameMem s (s.setS b).advance :=
  KeepsExcept.frame_and_rest_advance ((KeepsExcept.refl s [] [1]).setS b (by simp)) ⟨rfl, rfl, rfl⟩
    ⟨rfl, rfl, rfl, rfl⟩ ⟨fun _ => rfl, rfl⟩

theorem frame_advance (s : State) :
    Frame s s.advance [] [] ∧ SameAcc s s.advance ∧ SameFpu s s.advance ∧ SameMem s s.advance :=
  KeepsExcept.frame_and_rest_advance (KeepsExcept.refl s [] []) ⟨rfl, rfl, rfl⟩ ⟨rfl, rfl, rfl, rfl⟩
    ⟨fun _ => rfl, rfl⟩

/-- Settles O42. -/
theorem flagAndHintResults : Obligations.FlagAndHintResults := by
  intro s n
  refine ⟨flagResult_of_done (exec_clrt s) rfl, flagResult_of_done (exec_sett s) rfl,
    completes_of_done (exec_clrs s) ⟨State.satS_setS_advance s _, frame_setS_advance s _⟩,
    completes_of_done (exec_sets s) ⟨State.satS_setS_advance s _, frame_setS_advance s _⟩,
    completes_of_done (exec_nop s) (frame_advance s), completes_of_done (exec_pref s n) (frame_advance s),
    fun hmd => ?_⟩
  rw [exec_sleep, execSleep, privileged_of_md _ hmd, done, State.advance_eq, State.advance_eq]
  rfl

/-! ### The special registers (O43, O44) -/

/-- Settles O43: the guard of each form passes, and then it writes one register. -/
theorem specialRegisterReads : Obligations.SpecialRegisterReads := by
  intro s n k
  refine ⟨regResult_of_done (exec_stsMach s n) rfl, regResult_of_done (exec_stsMacl s n) rfl,
    regResult_of_done (exec_stsPr s n) rfl, regResult_of_done (exec_stcGbr s n) rfl, fun hmd => ?_, fun hfd => ?_⟩
  · have read {i : Instr} {v : Word} (h : exec i s = privileged s (done (s.setR n v))) : RegResult i s n v :=
      regResult_of_done (h.trans (privileged_of_md _ hmd)) rfl
    exact ⟨read (exec_stcSr s n), read (exec_stcVbr s n), read (exec_stcSsr s n), read (exec_stcSpc s n),
      read (exec_stcSgr s n), read (exec_stcBank s n k)⟩
  · have read {i : Instr} {v : Word} (h : exec i s = fpu s (done (s.setR n v))) : RegResult i s n v :=
      regResult_of_done (h.trans (fpu_of_on _ hfd)) rfl
    exact ⟨read (exec_stsFpul s n), read (exec_stsFpscr s n)⟩

theorem banks_setOther_advance (s : State) (k : BankReg) (v : Word) :
    (∀ j, (s.setOther k v).advance.r j = s.r j)
      ∧ (∀ j, (s.setOther k v).advance.other j = if j = k then v else s.other j) :=
  ⟨fun j => by simp, fun j => by rw [State.other_advance, State.other_setOther]⟩

/-- What a write of the other bank leaves as it was (R66). -/
theorem frame_setOther_advance (s : State) (k : BankReg) (v : Word) :
    SameControl s (s.setOther k v).advance ∧ SameHidden s (s.setOther k v).advance ∧ Moved s (s.setOther k v).advance
      ∧ SameAcc s (s.setOther k v).advance ∧ SameFpu s (s.setOther k v).advance ∧ SameMem s (s.setOther k v).advance := by
  rw [State.advance_eq]
  exact ⟨⟨rfl, rfl, rfl, rfl, rfl, rfl⟩, ⟨rfl, rfl, rfl, rfl, rfl⟩, ⟨rfl, rfl⟩, ⟨rfl, rfl, rfl⟩, ⟨rfl, rfl, rfl, rfl⟩,
    ⟨fun _ => rfl, rfl⟩⟩

theorem done_eq (u : State) : done u = .next { u with pc := u.nextPc, slot := none } :=
  congrArg _ (State.advance_eq u)

/-- Settles O44: the write and the move to the next instruction touch different fields, so that their order does not
matter; the write of the other bank by the frame of `KeepsExcept`. -/
theorem specialRegisterWrites : Obligations.SpecialRegisterWrites := by
  intro s m nb
  have lds {i : Instr} {u : State} (h : exec i s = done u) : exec i s = .next { u with pc := u.nextPc, slot := none } :=
    h.trans (done_eq u)
  have ldc {i : Instr} {u : State} (hmd : s.md = true) (h : exec i s = privileged s (done u)) :
      exec i s = .next { u with pc := u.nextPc, slot := none } := lds (h.trans (privileged_of_md _ hmd))
  have fld {i : Instr} {u : State} (hfd : s.fd = false) (h : exec i s = fpu s (done u)) :
      exec i s = .next { u with pc := u.nextPc, slot := none } := lds (h.trans (fpu_of_on _ hfd))
  simp only [State.advance_eq s]
  refine ⟨lds (exec_ldsMach s m), lds (exec_ldsMacl s m), lds (exec_ldsPr s m), lds (exec_ldcGbr s m),
    fun hmd => ⟨ldc hmd (exec_ldcSr s m), ldc hmd (exec_ldcVbr s m), ldc hmd (exec_ldcSsr s m), ldc hmd (exec_ldcSpc s m),
      ldc hmd (exec_ldcSgr s m), ?ldcBank⟩, fun hfd => ⟨fld hfd (exec_ldsFpul s m), fld hfd (exec_ldsFpscr s m)⟩⟩
  case ldcBank =>
    have h := (exec_ldcBank s m nb).trans (privileged_of_md _ hmd)
    obtain ⟨hr, hother⟩ := banks_setOther_advance s nb (s.r m)
    obtain ⟨hcontrol, hhidden, hmoved, hrest⟩ := frame_setOther_advance s nb (s.r m)
    exact completes_of_done h ⟨hr, hother, by simp, hcontrol, hhidden, hmoved, hrest⟩

/-! ### The branches (O51) -/

/-- Settles O51: outside a delay slot each branch is its `delayedBranch` or its jump. -/
theorem branchResults : Obligations.BranchResults := by
  intro s m d l hslot
  have branch {i : Instr} {t : State} (h : exec i s = outsideSlot s (.next t)) : exec i s = .next t :=
    h.trans (outsideSlot_of_none _ hslot)
  exact ⟨branch (exec_bra s l), branch (exec_bsr s l), branch (exec_bsaf s m), branch (exec_bsrf s m),
    branch (exec_jmp s m), branch (exec_jsr s m), branch (exec_rts s), branch (exec_bts s d), branch (exec_bfs s d),
    branch (exec_bt s d), branch (exec_bf s d)⟩

/-! ### A step of an unsigned division (O38) -/

/-- The partial remainder as a number, and the one the step leaves, by whether the old one was negative (R224). -/
theorem partialRemainder_divStep {a b : Word} {q t : Bool} {P D : Int} (hD : D = b.toNat)
    (hP : P = a.toNat - 2 ^ 32 * (q.toNat : Int)) (hlow : -D ≤ P) (hhigh : P < D) :
    let d := divStep a b q false t
    let P' : Int := d.r.toNat - 2 ^ 32 * (d.q.toNat : Int)
    P' = 2 * P + t.toNat + (if 0 ≤ P then -D else D) ∧ -D ≤ P' ∧ P' < D ∧ (d.t = true ↔ 0 ≤ P') := by
  have ha := a.isLt
  have hb := b.isLt
  have ht := t.toNat_le
  obtain ⟨x, hx⟩ : ∃ x, x = (2 * a.toNat + t.toNat) % 2 ^ 32 := ⟨_, rfl⟩
  rw [divStep_eq a b q false t hx]
  have hmsb : a.msb = decide (2 ^ 31 ≤ a.toNat) := BitVec.msb_eq_decide a
  have hsmall : a.toNat < 2 ^ 31 → x = 2 * a.toNat + t.toNat := by omega
  cases q with
  | false =>
    have hsub : (BitVec.ofNat 32 x - b).toNat = (x + (2 ^ 32 - b.toNat)) % 2 ^ 32 := by
      rw [BitVec.toNat_sub, BitVec.toNat_ofNat, Nat.add_comm]
      omega
    rw [Bool.toNat_false] at hP
    have hnonneg : 0 ≤ P := by omega
    by_cases hhalf : 2 ^ 31 ≤ a.toNat <;> by_cases hborrow : x < b.toNat <;>
      simp [divCarry, hmsb, hhalf, hborrow, hsub, hnonneg, -Nat.reducePow] <;> omega
  | true =>
    have hadd : (BitVec.ofNat 32 x + b).toNat = (x + b.toNat) % 2 ^ 32 := by
      rw [BitVec.toNat_add, BitVec.toNat_ofNat]
      omega
    rw [Bool.toNat_true] at hP
    have hneg : ¬ 0 ≤ P := by omega
    by_cases hhalf : 2 ^ 31 ≤ a.toNat <;> by_cases hcarry : 2 ^ 32 ≤ x + b.toNat <;>
      simp [divCarry, hmsb, hhalf, hcarry, hadd, hneg, -Nat.reducePow] <;> omega

@[simp] theorem State.partialRemainder_div1 (s : State) (n : Reg) (r : Word) (q t : Bool) :
    (((s.setR n r).setQ q).setT t).advance.partialRemainder n = r.toNat - 2 ^ 32 * (q.toNat : Int) := by
  simp [State.partialRemainder]

/-- Settles O38: what `DIV1` writes to the register and to Q are the halves of the new partial remainder. -/
theorem dividePartialRemainder : Obligations.DividePartialRemainder := by
  intro s n m P D hne hm hD _ hP hlow hhigh
  obtain ⟨hstep, hlow', hhigh', hsign⟩ := partialRemainder_divStep (t := s.t) hD hP hlow hhigh
  refine completes_of_done (exec_div1 s n m) ?_
  rw [hm]
  simp only [State.partialRemainder_div1, State.t_advance, State.t_setT]
  exact ⟨hstep, hlow', hhigh', hsign, by simpa [State.m] using hm, by simp [State.r_setR_ne hne.symm]⟩

/-! ### The super-ops (O60) -/

/-- A first component that ends in `done` outside a delay slot leads to the second (R415). -/
theorem inSequence_of_done {first second : State → Out} {s u t : State} (hslot : s.slot = none)
    (h1 : first s = done u) (hpc : u.pc = s.pc) (hu : u.slot = s.slot) (h2 : second u.advance = .next t) :
    inSequence first second s = .next t := by
  have hadvance : u.advance.pc = s.pc + 2 := by
    rw [State.pc_advance, State.nextPc_congr hpc hu, State.nextPc_of_none hslot]
  rw [inSequence, h1, done]
  exact (if_pos hadvance).trans h2

/-- Settles O60: the first component of each is a compare or a move, which moves on to the second word. -/
theorem superOpResults : Obligations.SuperOpResults := by
  intro s n m d hslot
  have pair {i a b : Instr} {u t : State} (hi : exec i s = inSequence (exec a) (exec b) s) (h1 : exec a s = done u)
      (hpc : u.pc = s.pc) (hu : u.slot = s.slot) (h2 : exec b u.advance = .next t) :
      ∃ u t, exec a s = .next u ∧ exec b u = .next t ∧ exec i s = .next t :=
    ⟨_, _, h1, h2, hi.trans (inSequence_of_done hslot h1 hpc hu h2)⟩
  have branch {u : State} (k : Out) : outsideSlot u.advance k = k := outsideSlot_of_none _ (State.advance_slot u)
  refine ⟨?pairs, ?cmpbne, fun hne => ?shadImm⟩
  case pairs =>
    simp only [List.forall_mem_cons, List.not_mem_nil, false_imp_iff, implies_true, and_true]
    exact ⟨pair (exec_cmpbeq s n m d) (exec_cmpeqR s n m) rfl rfl (branch _),
      pair (exec_cmpbne s n m d) (exec_cmpeqR s n m) rfl rfl (branch _),
      pair (exec_cmpbge s n m d) (exec_cmpge s n m) rfl rfl (branch _),
      pair (exec_cmpblt s n m d) (exec_cmpge s n m) rfl rfl (branch _),
      pair (exec_cmpbgt s n m d) (exec_cmpgt s n m) rfl rfl (branch _),
      pair (exec_cmpble s n m d) (exec_cmpgt s n m) rfl rfl (branch _),
      pair (exec_shadImm s n m d) (exec_movI s m d) rfl rfl rfl,
      pair (exec_shldImm s n m d) (exec_movI s m d) rfl rfl rfl⟩
  case cmpbne =>
    refine ⟨_, (exec_cmpbne s n m d).trans (inSequence_of_done hslot rfl rfl rfl (branch _)), ?_, ?_⟩
    · exact (State.t_advance _).trans ((State.t_setT s _).trans (Bool.beq_eq_decide_eq (s.r n) (s.r m)))
    · have hpc : (s.setT (s.r n == s.r m)).advance.pc = s.pc + 2 := by
        rw [State.pc_advance, State.nextPc_of_none (by simpa using hslot), State.setT_pc]
      have htwo : s.pc + 2 + 2 = s.pc + 4 := BitVec.add_assoc _ _ _
      have hfour : s.pc + 2 + 4 = s.pc + 6 := BitVec.add_assoc _ _ _
      simp only [State.t_advance, State.t_setT, State.branchTarget, hpc, beq_iff_eq, htwo, hfour]
  case shadImm =>
    refine ⟨_, (exec_shadImm s n m d).trans (inSequence_of_done hslot rfl rfl rfl rfl), ?_, ?_⟩
    · simp [State.r_setR_ne hne]
    · simp [State.pc_advance, State.nextPc_of_none, hslot, BitVec.add_assoc]

end Sys2Proof.Machine
end

section
/-! SUPPORT. The results of the loads, stores and read-modify-writes of the integer side (O40, O41, O45 to O50, O52): one
rule per shape of access, under the place that the model's own checks give. -/

namespace Sys2Proof.Machine

/-! ### What a write leaves in the accumulator and the FPU -/

section Same

variable {s u : State}

theorem SameAcc.setR (h : SameAcc s u) (n : Reg) (v : Word) : SameAcc s (u.setR n v) := ⟨h.mach, h.macl, h.pr⟩
theorem SameAcc.setT (h : SameAcc s u) (b : Bool) : SameAcc s (u.setT b) := ⟨h.mach, h.macl, h.pr⟩
theorem SameFpu.setR (h : SameFpu s u) (n : Reg) (v : Word) : SameFpu s (u.setR n v) :=
  ⟨h.fpscr, h.fpul, h.fb0, h.fb1⟩
theorem SameFpu.setT (h : SameFpu s u) (b : Bool) : SameFpu s (u.setT b) := ⟨h.fpscr, h.fpul, h.fb0, h.fb1⟩

variable (s) (sz : Size) (v : Word) (p : Place)

theorem sameAcc_noteRead : SameAcc s (s.noteRead sz p) := by cases p <;> exact ⟨rfl, rfl, rfl⟩
theorem sameFpu_noteRead : SameFpu s (s.noteRead sz p) := by cases p <;> exact ⟨rfl, rfl, rfl, rfl⟩
theorem sameAcc_storeTo : SameAcc s (s.storeTo sz v p) := by cases p <;> exact ⟨rfl, rfl, rfl⟩
theorem sameFpu_storeTo : SameFpu s (s.storeTo sz v p) := by cases p <;> exact ⟨rfl, rfl, rfl, rfl⟩

end Same

/-! ### The frame of a store -/

theorem keepsExcept_storeTo (s : State) (sz : Size) (v : Word) (p : Place) (regs : List Reg) (bits : List Nat) :
    KeepsExcept (s.noteWrite sz v p) (s.storeTo sz v p) regs bits := by
  cases p <;> exact ⟨⟨fun _ _ => rfl, fun _ => rfl⟩, fun _ _ => rfl, ⟨rfl, rfl, rfl, rfl, rfl, rfl⟩,
    ⟨rfl, rfl, rfl, rfl, rfl⟩, rfl, rfl⟩

/-- A stored value loads as its width cuts it (R91, R114). -/
theorem loadAt_storeAt {s : State} {sz : Size} {loc : Nat} {v : Word} (w : Memory.wf s.mem = true)
    (h : loc + sz.bytes ≤ 2 ^ 32) : loadAt s.cfg.endianLocal sz (s.storeAt sz loc v).mem loc = sz.cut v := by
  refine (loadAt_memPutAll w h).trans ?_
  cases sz <;> rfl

/-- `Stores` from what a state after the store, before the PC has moved on, keeps of the state before. -/
theorem KeepsExcept.stores_advance {s u : State} {sz : Size} {p : Place} {v : Word} {regs : List Reg}
    {bits : List Nat} (h : KeepsExcept (s.noteWrite sz v p) u regs bits) (w : Memory.wf s.mem = true)
    (hp : p.loc + sz.bytes ≤ 2 ^ 32) (hmem : u.mem = (s.storeTo sz v p).mem)
    (hstored : u.stored = (s.storeTo sz v p).stored) (hacc : SameAcc s u) (hfpu : SameFpu s u) :
    Stores s u.advance sz p v regs bits where
  value loc hloc := by
    subst hloc
    rw [State.advance_mem, hmem]
    exact loadAt_storeAt w hp
  outside a ha := by
    rw [State.advance_mem, hmem]
    exact storeTo_outside w hp ha
  stored a := by
    rw [State.advance_stored, hstored, State.storeTo_stored]
    exact mem_insertLocs
  frame := h.frame_advance
  acc := hacc.advance
  fpu := hfpu.advance

/-! ### The shapes of an access whose checks pass -/

section Shapes

variable {s : State} {sz : Size} {ea v : Word} {ext : Word → Word} {n m : Reg} {p : Place}

theorem loadReg_of_check (h : s.check .read sz ea = .ok p) :
    loadReg s sz ext ea n = done ((s.noteRead sz p).setR n (ext (s.valueAt s.cfg.endianLocal sz p))) := by
  rw [loadReg, read_of_check h]
  rfl

theorem loadInc_of_check (h : s.check .read sz (s.r m) = .ok p) :
    loadInc s sz ext m n = done (((s.noteRead sz p).setR m (s.r m + BitVec.ofNat 32 sz.bytes)).setR n
      (ext (s.valueAt s.cfg.endianLocal sz p))) := by
  rw [loadInc, read_of_check h]
  rfl

theorem storeVal_of_check (h : s.check .write sz ea = .ok p) : storeVal s sz ea v = done (s.storeTo sz v p) := by
  rw [storeVal, write_of_check h]
  rfl

theorem pushVal_of_check (h : s.check .write sz (s.r n - BitVec.ofNat 32 sz.bytes) = .ok p) :
    pushVal s sz n v = done ((s.storeTo sz v p).setR n (s.r n - BitVec.ofNat 32 sz.bytes)) := by
  rw [pushVal, write_of_check h]
  rfl

theorem popLong_of_check {put : State → Word → State} (h : s.check .read .l (s.r m) = .ok p) :
    popLong s m put = done (put ((s.noteRead .l p).setR m (s.r m + 4)) (s.valueAt s.cfg.endianLocal .l p)) := by
  rw [popLong, read_of_check h]
  rfl

theorem readToModify_of_check {q : Place} (h : s.check .write sz ea = .ok p) (hq : s.check .read sz ea = .ok q) :
    s.readToModify sz ea = .ok (s.loadFrom s.cfg.endianLocal sz q) := by
  rw [State.readToModify, h]
  exact read_of_check hq

end Shapes

/-! ### The loads (O48) -/

theorem loadResult_of_loadReg {i : Instr} {s : State} {sz : Size} {ext : Word → Word} {ea ea' : Word} {n : Reg}
    (h : exec i s = loadReg s sz ext ea' n) (hea : ea' = ea) : LoadResult i s sz ext ea n := by
  intro p hp
  subst hea
  exact completes_of_done (h.trans (loadReg_of_check hp)) (writesReg_setR_advance _ n _)

theorem loadIncResult_of_loadInc {i : Instr} {s : State} {sz : Size} {ext : Word → Word} {n m : Reg}
    (h : exec i s = loadInc s sz ext m n) : LoadIncResult i s sz ext n m := by
  intro p hp
  refine completes_of_done (h.trans (loadInc_of_check hp)) ⟨by simp, fun hne => by simp [State.r_setR_ne hne], ?_,
    SameAcc.advance (((sameAcc_noteRead s sz p).setR m _).setR n _),
    SameFpu.advance (((sameFpu_noteRead s sz p).setR m _).setR n _), ⟨by simp, by simp⟩⟩
  exact (((KeepsExcept.refl (s.noteRead sz p) [n, m] []).setR _ (by simp)).setR _ (by simp)).frame_advance

/-- A displacement counts accesses of its width (R104). -/
theorem add_scaled (a d c : Word) : a + d * c = a + c * d := congrArg (a + ·) (BitVec.mul_comm d c)

theorem add_scaled_one (a d : Word) : a + d * 1 = a + d := congrArg (a + ·) (BitVec.mul_one d)

/-- Settles O48. -/
theorem loadResults : Obligations.LoadResults := by
  intro s n m d g
  exact ⟨loadResult_of_loadReg (exec_movBLoad s n m) rfl, loadResult_of_loadReg (exec_movWLoad s n m) rfl,
    loadResult_of_loadReg (exec_movLLoad s n m) rfl, loadResult_of_loadReg (exec_movBLoadIdx s n m) rfl,
    loadResult_of_loadReg (exec_movWLoadIdx s n m) rfl, loadResult_of_loadReg (exec_movLLoadIdx s n m) rfl,
    loadResult_of_loadReg (exec_movBLoadDisp s m d) (add_scaled_one _ _),
    loadResult_of_loadReg (exec_movWLoadDisp s m d) (add_scaled _ _ _),
    loadResult_of_loadReg (exec_movLLoadDisp s n m d) (add_scaled _ _ _),
    loadResult_of_loadReg (exec_movBLoadGbr s g) (add_scaled_one _ _),
    loadResult_of_loadReg (exec_movWLoadGbr s g) (add_scaled _ _ _),
    loadResult_of_loadReg (exec_movLLoadGbr s g) (add_scaled _ _ _),
    loadIncResult_of_loadInc (exec_movBLoadInc s n m), loadIncResult_of_loadInc (exec_movWLoadInc s n m),
    loadIncResult_of_loadInc (exec_movLLoadInc s n m)⟩

/-! ### The stores (O47) and the pushes (O45) -/

theorem storeResult_of_storeVal {i : Instr} {s : State} {sz : Size} {ea ea' v : Word} (w : Memory.wf s.mem = true)
    (h : exec i s = storeVal s sz ea' v) (hea : ea' = ea) : StoreResult i s sz ea v := by
  intro p hp
  subst hea
  obtain ⟨-, -, hbound⟩ := check_ok hp
  exact completes_of_done (h.trans (storeVal_of_check hp)) ((keepsExcept_storeTo s sz v p [] []).stores_advance w hbound
    rfl rfl (sameAcc_storeTo s sz v p) (sameFpu_storeTo s sz v p))

/-- Settles O47. -/
theorem storeResults : Obligations.StoreResults := by
  intro s n m d g w
  exact ⟨storeResult_of_storeVal w (exec_movBStore s n m) rfl, storeResult_of_storeVal w (exec_movWStore s n m) rfl,
    storeResult_of_storeVal w (exec_movLStore s n m) rfl, storeResult_of_storeVal w (exec_movcaL s n) rfl,
    storeResult_of_storeVal w (exec_movBStoreIdx s n m) rfl, storeResult_of_storeVal w (exec_movWStoreIdx s n m) rfl,
    storeResult_of_storeVal w (exec_movLStoreIdx s n m) rfl,
    storeResult_of_storeVal w (exec_movBStoreDisp s n d) (add_scaled_one _ _),
    storeResult_of_storeVal w (exec_movWStoreDisp s n d) (add_scaled _ _ _),
    storeResult_of_storeVal w (exec_movLStoreDisp s n m d) (add_scaled _ _ _),
    storeResult_of_storeVal w (exec_movBStoreGbr s g) (add_scaled_one _ _),
    storeResult_of_storeVal w (exec_movWStoreGbr s g) (add_scaled _ _ _),
    storeResult_of_storeVal w (exec_movLStoreGbr s g) (add_scaled _ _ _)⟩

theorem pushResult_of_pushVal {i : Instr} {s : State} {sz : Size} {n : Reg} {v : Word} (w : Memory.wf s.mem = true)
    (h : exec i s = pushVal s sz n v) : PushResult i s sz n v := by
  intro p hp
  obtain ⟨-, -, hbound⟩ := check_ok hp
  exact completes_of_done (h.trans (pushVal_of_check hp)) ⟨by simp,
    ((keepsExcept_storeTo s sz v p [n] []).setR _ (by simp)).stores_advance w hbound rfl rfl
      ((sameAcc_storeTo s sz v p).setR n _) ((sameFpu_storeTo s sz v p).setR n _)⟩

/-- Settles O45. -/
theorem pushResults : Obligations.PushResults := by
  intro s n m k w
  refine ⟨pushResult_of_pushVal w (exec_movBPush s n m), pushResult_of_pushVal w (exec_movWPush s n m),
    pushResult_of_pushVal w (exec_movLPush s n m), pushResult_of_pushVal w (exec_stslMach s n),
    pushResult_of_pushVal w (exec_stslMacl s n), pushResult_of_pushVal w (exec_stslPr s n),
    pushResult_of_pushVal w (exec_stclGbr s n), fun hmd => ?_, fun hfd => ?_⟩
  · have push {i : Instr} {v : Word} (h : exec i s = privileged s (pushVal s .l n v)) : PushResult i s .l n v :=
      pushResult_of_pushVal w (h.trans (privileged_of_md _ hmd))
    exact ⟨push (exec_stclSr s n), push (exec_stclVbr s n), push (exec_stclSsr s n), push (exec_stclSpc s n),
      push (exec_stclSgr s n), push (exec_stclBank s n k)⟩
  · have push {i : Instr} {v : Word} (h : exec i s = fpu s (pushVal s .l n v)) : PushResult i s .l n v :=
      pushResult_of_pushVal w (h.trans (fpu_of_on _ hfd))
    exact ⟨push (exec_stslFpul s n), push (exec_stslFpscr s n)⟩

/-! ### The pops (O46) -/

theorem exec_of_popLong {i : Instr} {s : State} {m : Reg} {p : Place} {put : State → Word → State}
    (h : exec i s = popLong s m put) (hp : s.check .read .l (s.r m) = .ok p) :
    exec i s = done (put ((s.noteRead .l p).setR m (s.r m + 4)) (s.valueAt s.cfg.endianLocal .l p)) :=
  h.trans (popLong_of_check hp)

/-- The write of a special register and the move to the next instruction touch different fields. -/
def AdvancesLast (put : State → Word → State) : Prop := ∀ u v, (put u v).advance = put u.advance v

theorem popResult_of_popLong {i : Instr} {s : State} {m : Reg} {put : State → Word → State}
    (h : exec i s = popLong s m put) (hput : AdvancesLast put) : PopResult i s m put :=
  fun _ hp => (exec_of_popLong h hp).trans (congrArg _ (hput _ _))

theorem advancesLast_of_eq {put : State → Word → State}
    (h : ∀ u v, { put u v with pc := (put u v).nextPc, slot := none } = put { u with pc := u.nextPc, slot := none } v) :
    AdvancesLast put := fun u v => by rw [State.advance_eq, State.advance_eq, h]

/-- Settles O46. -/
theorem popResults : Obligations.PopResults := by
  intro s m
  have pop {i : Instr} {put : State → Word → State} (h : exec i s = popLong s m put)
      (hput : ∀ u v, { put u v with pc := (put u v).nextPc, slot := none }
        = put { u with pc := u.nextPc, slot := none } v) : PopResult i s m put :=
    popResult_of_popLong h (advancesLast_of_eq hput)
  refine ⟨pop (exec_ldslMach s m) fun _ _ => rfl, pop (exec_ldslMacl s m) fun _ _ => rfl,
    pop (exec_ldslPr s m) fun _ _ => rfl, pop (exec_ldclGbr s m) fun _ _ => rfl, fun hmd => ?_, fun hfd => ?_⟩
  · have guard {i : Instr} {k : Out} (h : exec i s = privileged s k) : exec i s = k := h.trans (privileged_of_md _ hmd)
    refine ⟨pop (guard (exec_ldclSr s m)) fun _ _ => rfl, pop (guard (exec_ldclVbr s m)) fun _ _ => rfl,
      pop (guard (exec_ldclSsr s m)) fun _ _ => rfl, pop (guard (exec_ldclSpc s m)) fun _ _ => rfl,
      pop (guard (exec_ldclSgr s m)) fun _ _ => rfl, fun nb p hp => ?_⟩
    obtain ⟨hr, hother⟩ := banks_setOther_advance ((s.noteRead .l p).setR m (s.r m + 4)) nb
      (s.valueAt s.cfg.endianLocal .l p)
    refine completes_of_done (exec_of_popLong (guard (exec_ldclBank s m nb)) hp) ⟨fun j => ?_, fun k => ?_, ?_⟩
    · rw [hr, State.r_setR, State.r_noteRead]
    · rw [hother, State.other_setR, State.other_noteRead]
    · rw [State.advance_eq]
      cases p <;> exact ⟨rfl, ⟨rfl, rfl, rfl, rfl, rfl, rfl⟩, ⟨rfl, rfl, rfl, rfl, rfl⟩, ⟨rfl, rfl⟩, ⟨rfl, rfl, rfl⟩,
        ⟨rfl, rfl, rfl, rfl⟩, ⟨fun _ => rfl, rfl⟩⟩
  · have guard {i : Instr} {k : Out} (h : exec i s = fpu s k) : exec i s = k := h.trans (fpu_of_on _ hfd)
    exact ⟨pop (guard (exec_ldslFpul s m)) fun _ _ => rfl, pop (guard (exec_ldslFpscr s m)) fun _ _ => rfl⟩

/-! ### The read-modify-writes (O49) -/

section ReadModifyWrite

variable {s : State} {sz : Size} {ea : Word} {p q : Place} {v : Word}

theorem write_noteRead_of_check (h : s.check .write sz ea = .ok p) :
    (s.noteRead sz q).write sz ea v = .ok ((s.noteRead sz q).storeTo sz v p) :=
  write_of_check ((check_noteRead s sz q .write sz ea).trans h)

/-- `Stores` after the read of a read-modify-write, for a state that has then kept its registers but those listed. -/
theorem KeepsExcept.stores_noteRead_advance {u : State} {regs : List Reg} {bits : List Nat}
    (h : KeepsExcept ((s.noteRead sz q).noteWrite sz v p) u regs bits) (w : Memory.wf s.mem = true)
    (hp : s.check .write sz ea = .ok p) (hmem : u.mem = ((s.noteRead sz q).storeTo sz v p).mem)
    (hstored : u.stored = ((s.noteRead sz q).storeTo sz v p).stored) (hacc : SameAcc (s.noteRead sz q) u)
    (hfpu : SameFpu (s.noteRead sz q) u) : Stores (s.noteRead sz q) u.advance sz p v regs bits := by
  obtain ⟨-, -, hbound⟩ := check_ok hp
  exact h.stores_advance (by simpa using w) hbound hmem hstored hacc hfpu

theorem modifyByte_of_check {f : Byte → Byte} (h : s.check .write .b ea = .ok p) (hq : s.check .read .b ea = .ok q) :
    modifyByte s ea f = done ((s.noteRead .b q).storeTo .b
      ((f ((s.valueAt s.cfg.endianLocal .b q).setWidth 8)).setWidth 32) p) := by
  rw [modifyByte, readToModify_of_check h hq]
  exact congrArg (fun x => orStop (s.noteRead .b q) x fun s1 => done s1) (write_noteRead_of_check h)

/-- A byte is read with zeros above it. -/
theorem valueAt_byte (s : State) (e : Endian) (q : Place) : ∃ x : Byte, s.valueAt e .b q = x.setWidth 32 := by
  cases q with
  | mem loc => exact ⟨memGet s.mem loc, rfl⟩
  | special ea => exact ⟨_, rfl⟩

theorem modifyByte_result {i : Instr} {f : Byte → Byte} {r : Word} (w : Memory.wf s.mem = true)
    (h : s.check .write .b ea = .ok p) (hq : s.check .read .b ea = .ok q) (hi : exec i s = modifyByte s ea f)
    (hr : (f ((s.valueAt s.cfg.endianLocal .b q).setWidth 8)).setWidth 32 = r) :
    Completes i s fun t => Stores (s.noteRead .b q) t .b p r [] [] := by
  subst hr
  exact completes_of_done (hi.trans (modifyByte_of_check h hq))
    ((keepsExcept_storeTo _ _ _ p [] []).stores_noteRead_advance w h rfl rfl (sameAcc_storeTo _ _ _ p)
      (sameFpu_storeTo _ _ _ p))

end ReadModifyWrite

theorem exec_tasB_of_check {s : State} {m : Reg} {p q : Place} (h : s.check .write .b (s.r m) = .ok p)
    (hq : s.check .read .b (s.r m) = .ok q) :
    exec (.tasB m) s = done (((s.noteRead .b q).storeTo .b (s.valueAt s.cfg.endianLocal .b q ||| 0x80) p).setT
      (s.valueAt s.cfg.endianLocal .b q == 0)) := by
  rw [exec_tasB, execTasB, readToModify_of_check h hq]
  exact congrArg (fun x => orStop (s.noteRead .b q) x fun s1 => done (s1.setT (s.valueAt s.cfg.endianLocal .b q == 0)))
    (write_noteRead_of_check h)

theorem exec_casL_of_check {s : State} {n m : Reg} {p q : Place} (h : s.check .write .l (s.r 0) = .ok p)
    (hq : s.check .read .l (s.r 0) = .ok q) :
    exec (.casL n m) s =
      if s.valueAt s.cfg.endianLocal .l q = s.r m then
        done ((((s.noteRead .l q).storeTo .l (s.r n) p).setT true).setR n (s.valueAt s.cfg.endianLocal .l q))
      else done (((s.noteRead .l q).setT false).setR n (s.valueAt s.cfg.endianLocal .l q)) := by
  rw [exec_casL, execCasL, readToModify_of_check h hq]
  refine if_congr Iff.rfl ?_ rfl
  exact congrArg (fun x => orStop (s.noteRead .l q) x fun s1 =>
    done ((s1.setT true).setR n (s.valueAt s.cfg.endianLocal .l q))) (write_noteRead_of_check h)

theorem State.setR_setT (s : State) (n : Reg) (v : Word) (b : Bool) : (s.setT b).setR n v = (s.setR n v).setT b := by
  simp only [State.setR, State.onB_setT]
  rfl

/-- Settles O49. -/
theorem readModifyWriteResults : Obligations.ReadModifyWriteResults := by
  intro s n m imm p q w
  dsimp only
  obtain ⟨x, hx⟩ := valueAt_byte s s.cfg.endianLocal q
  refine ⟨fun hp hq => ?tasB, fun hq => ?tstBGbr, fun hp hq => ⟨?andB, ?xorB, ?orB⟩, fun hp hq => ⟨?same, ?differs⟩⟩
  case tasB =>
    exact completes_of_done (exec_tasB_of_check hp hq) ⟨(State.t_advance _).trans ((State.t_setT _ _).trans
        (Bool.beq_eq_decide_eq _ _)),
      ((keepsExcept_storeTo _ _ _ p [] [0]).setT _ (by simp)).stores_noteRead_advance w hp rfl rfl
        ((sameAcc_storeTo _ _ _ p).setT _) ((sameFpu_storeTo _ _ _ p).setT _)⟩
  case tstBGbr =>
    have h : exec (.tstBGbr imm) s =
        done ((s.noteRead .b q).setT (s.valueAt s.cfg.endianLocal .b q &&& imm.setWidth 32 == 0)) := by
      rw [exec_tstBGbr, execTstBGbr, State.eaGbrIndexed, read_of_check hq]
      rfl
    exact completes_of_done h (Bool.beq_eq_decide_eq (s.valueAt s.cfg.endianLocal .b q &&& imm.setWidth 32) 0 ▸
      writesFlag_setT_advance _ _)
  case andB => exact modifyByte_result w hp hq (exec_andBGbr s imm) (by rw [hx]; simp)
  case xorB => exact modifyByte_result w hp hq (exec_xorBGbr s imm) (by rw [hx]; simp)
  case orB => exact modifyByte_result w hp hq (exec_orBGbr s imm) (by rw [hx]; simp)
  case same =>
    intro heq
    refine completes_of_done ((exec_casL_of_check hp hq).trans (if_pos heq)) ⟨by simp [heq],
      (State.t_advance _).trans (State.t_setT _ true), ?_⟩
    exact (((keepsExcept_storeTo _ _ _ p [n] [0]).setT _ (by simp)).setR _ (by simp)).stores_noteRead_advance w hp rfl rfl
      (((sameAcc_storeTo _ _ _ p).setT _).setR n _) (((sameFpu_storeTo _ _ _ p).setT _).setR n _)
  case differs =>
    intro hne
    have h := (exec_casL_of_check (n := n) hp hq).trans (if_neg hne)
    rw [State.setR_setT] at h
    exact completes_of_done h (writesRegT_setR_setT_advance _ n _ false)

/-! ### Narrower loads of a stored long (O50) -/

/-- A part of a word, as a shift and a mask. -/
theorem setWidth_extractLsb'_eq (v : Word) (j len : Nat) :
    (v.extractLsb' j len).setWidth 32 = (v >>> j) &&& (BitVec.allOnes len).setWidth 32 := by
  ext i hi
  simp only [BitVec.getElem_setWidth, BitVec.getLsbD_extractLsb', BitVec.getElem_and, BitVec.getElem_ushiftRight,
    BitVec.getLsbD_allOnes, Bool.and_comm]

/-- Where a stored long has each of its bytes (R91). -/
theorem memGet_storeLong_little {s : State} {loc k : Nat} {v : Word} (he : s.cfg.endianLocal = .little)
    (w : Memory.wf s.mem = true) (h : loc + 4 ≤ 2 ^ 32) (hk : k < 4) :
    memGet (s.storeAt .l loc v).mem (loc + k) = v.extractLsb' (8 * k) 8 := by
  have hget := memGet_memPutAll_in (i := k) (bytesOfValue .little .l v) w h hk
  rw [State.storeAt, he, hget]
  match k with
  | 0 | 1 | 2 | 3 => rfl

theorem memGet_storeLong_big {s : State} {loc k : Nat} {v : Word} (he : s.cfg.endianLocal = .big)
    (w : Memory.wf s.mem = true) (h : loc + 4 ≤ 2 ^ 32) (hk : k < 4) :
    memGet (s.storeAt .l loc v).mem (loc + k) = v.extractLsb' (24 - 8 * k) 8 := by
  have hget := memGet_memPutAll_in (i := k) (bytesOfValue .big .l v) w h hk
  rw [State.storeAt, he, hget]
  match k with
  | 0 | 1 | 2 | 3 => rfl

/-- Two bytes of a word that stand side by side. -/
theorem append_bytes (v : Word) (j : Nat) : v.extractLsb' (j + 8) 8 ++ v.extractLsb' j 8 = v.extractLsb' j 16 :=
  BitVec.extractLsb'_append_extractLsb'_eq_extractLsb' (by omega)

theorem extractLsb'_high (v : Word) : (v.extractLsb' 16 16).setWidth 32 = v >>> 16 := by
  ext i hi
  simp only [BitVec.getElem_setWidth, BitVec.getLsbD_extractLsb', BitVec.getElem_ushiftRight]
  by_cases h : i < 16
  · simp [h]
  · simp [h, show 32 ≤ 16 + i by omega]

/-- Settles O50: each byte of the long by where the byte order puts it, and a word as two of them. -/
theorem narrowLoadAfterStore : Obligations.NarrowLoadAfterStore := by
  intro s loc v w h
  refine ⟨loadAt_storeAt w h, fun he => ?little, fun he => ?big⟩
  case little =>
    have get (k : Nat) (hk : k < 4) := memGet_storeLong_little (v := v) he w h hk
    have get0 : memGet (s.storeAt .l loc v).mem loc = _ := get 0 (by decide)
    refine ⟨fun k hk => ?_, ?_, ?_⟩
    · rw [loadAt, get k hk]
      exact setWidth_extractLsb'_eq v _ 8
    · have hlow : wordOfBytes .little (v.extractLsb' 0 8) (v.extractLsb' 8 8) = v.extractLsb' 0 16 := append_bytes v 0
      rw [loadAt, get 1 (by decide), get0]
      exact (congrArg _ hlow).trans (setWidth_extractLsb'_eq v 0 16)
    · have hhigh : wordOfBytes .little (v.extractLsb' 16 8) (v.extractLsb' 24 8) = v.extractLsb' 16 16 := append_bytes v 16
      rw [loadAt, get 2 (by decide), Nat.add_assoc, get 3 (by decide)]
      exact (congrArg _ hhigh).trans (extractLsb'_high v)
  case big =>
    have get (k : Nat) (hk : k < 4) := memGet_storeLong_big (v := v) he w h hk
    have get0 : memGet (s.storeAt .l loc v).mem loc = _ := get 0 (by decide)
    refine ⟨fun k hk => ?_, ?_, ?_⟩
    · rw [loadAt, get k hk]
      exact setWidth_extractLsb'_eq v _ 8
    · have hhigh : wordOfBytes .big (v.extractLsb' 24 8) (v.extractLsb' 16 8) = v.extractLsb' 16 16 := append_bytes v 16
      rw [loadAt, get 1 (by decide), get0]
      exact (congrArg _ hhigh).trans (extractLsb'_high v)
    · have hlow : wordOfBytes .big (v.extractLsb' 8 8) (v.extractLsb' 0 8) = v.extractLsb' 0 16 := append_bytes v 0
      rw [loadAt, get 2 (by decide), Nat.add_assoc, get 3 (by decide)]
      exact (congrArg _ hlow).trans (setWidth_extractLsb'_eq v 0 16)

/-! ### The PC-relative loads, `MOVA` and `MOVI24` (O52) -/

/-- Settles O52. -/
theorem pcRelativeResults : Obligations.PcRelativeResults := by
  intro s n d imm hslot
  refine ⟨fun p hp => ?movW, fun p hp => ?movL, ?mova, (exec_movi24 s imm).trans (outsideSlot_of_none _ hslot)⟩
  case movW =>
    rw [← add_scaled] at hp
    have h : exec (.movWLoadPc n d) s = done ((s.noteRead .w p).setR n (sextHalf (s.valueAt s.cfg.endian .w p))) := by
      rw [exec_movWLoadPc, execMovWLoadPc, outsideSlot_of_none _ hslot, State.eaPcWord, readPc_of_check hp]
      rfl
    exact completes_of_done h (writesReg_setR_advance _ n _)
  case movL =>
    rw [← add_scaled] at hp
    have h : exec (.movLLoadPc n d) s = done ((s.noteRead .l p).setR n (s.valueAt s.cfg.endian .l p)) := by
      rw [exec_movLLoadPc, execMovLLoadPc, outsideSlot_of_none _ hslot, State.eaPcLong, readPc_of_check hp]
      rfl
    exact completes_of_done h (writesReg_setR_advance _ n _)
  case mova =>
    exact regResult_of_done ((exec_mova s d).trans (outsideSlot_of_none _ hslot)) (add_scaled _ _ _)

/-! ### The multiply-accumulates (O40, O41) -/

/-- A read looks at no general register. -/
theorem read_setR {u : State} {sz : Size} {ea : Word} {b : Loaded Word} (n : Reg) (v : Word)
    (h : u.read sz ea = .ok b) : (u.setR n v).read sz ea = .ok { value := b.value, state := b.state.setR n v } := by
  obtain ⟨q, hq, rfl⟩ := read_ok h
  rw [read_of_check ((check_setR u n v .read sz ea).trans hq)]
  cases q <;> rfl

section MacReads

variable {s : State} {n m : Reg} {a b : Loaded Word}

/-- The registers of a multiply-accumulate, each stepped by the width of its access (R198). -/
def State.stepBoth (s : State) (u : State) (n m : Reg) (c : Word) : State :=
  (u.setR n (s.r n + c)).setR m ((if m = n then s.r n + c else s.r m) + c)

/-- The address of the second read is the stepped one when the registers are one. -/
theorem second_address {sz : Size} (c : Word) (ha : s.read sz (s.r n) = .ok a) :
    (a.state.setR n (s.r n + c)).r m = if m = n then s.r n + c else s.r m := by
  obtain ⟨p, -, rfl⟩ := read_ok ha
  rw [State.r_setR, State.r_noteRead]

theorem exec_macL_of_reads (ha : s.read .l (s.r n) = .ok a)
    (hb : a.state.read .l (if m = n then s.r n + 4 else s.r m) = .ok b) :
    exec (.macL n m) s =
      done ((s.stepBoth b.state n m 4).setMac (macLongResult s.satS s.mac a.value b.value)) := by
  rw [exec_macL, execMacL, ha, orStop_ok]
  dsimp only
  rw [second_address 4 ha, read_setR n (s.r n + 4) hb]
  rfl

theorem exec_macW_of_reads (ha : s.read .w (s.r n) = .ok a)
    (hb : a.state.read .w (if m = n then s.r n + 2 else s.r m) = .ok b) :
    exec (.macW n m) s =
      done ((s.stepBoth b.state n m 2).macWord (a.value.setWidth 16) (b.value.setWidth 16)) := by
  rw [exec_macW, execMacW, ha, orStop_ok]
  dsimp only
  rw [second_address 2 ha, read_setR n (s.r n + 2) hb]
  rfl

/-- Two reads are seen by the handler of region 7 alone. -/
theorem reads_state {sz : Size} {ea ea' : Word} (ha : s.read sz ea = .ok a) (hb : a.state.read sz ea' = .ok b) :
    ∃ p q, b.state = (s.noteRead sz p).noteRead sz q := by
  obtain ⟨p, -, rfl⟩ := read_ok ha
  obtain ⟨q, -, rfl⟩ := read_ok hb
  exact ⟨p, q, rfl⟩

end MacReads

theorem stepBoth_r (s u : State) (n m : Reg) (c : Word) :
    (m ≠ n → (s.stepBoth u n m c).r n = s.r n + c ∧ (s.stepBoth u n m c).r m = s.r m + c)
      ∧ (m = n → (s.stepBoth u n m c).r n = s.r n + c + c) := by
  refine ⟨fun hne => ⟨?_, ?_⟩, fun heq => ?_⟩
  · rw [State.stepBoth, State.r_setR_ne hne.symm, State.r_setR_same]
  · rw [State.stepBoth, State.r_setR_same, if_neg hne]
  · subst heq
    rw [State.stepBoth, State.r_setR_same, if_pos rfl]

theorem keepsExcept_stepBoth (s u : State) (n m : Reg) (c : Word) :
    KeepsExcept u (s.stepBoth u n m c) [n, m] [] :=
  ((KeepsExcept.refl u [n, m] []).setR _ (by simp)).setR _ (by simp)

theorem KeepsExcept.setMac {s u : State} {regs : List Reg} {bits : List Nat} (h : KeepsExcept s u regs bits)
    (v : BitVec 64) : KeepsExcept s (u.setMac v) regs bits :=
  ⟨⟨h.regs.r, h.regs.other⟩, h.sr,
    ⟨h.control.gbr, h.control.vbr, h.control.ssr, h.control.spc, h.control.sgr, h.control.dbr⟩,
    ⟨h.hidden.irqs, h.hidden.asleep, h.hidden.special, h.hidden.freeCtr, h.hidden.cfg⟩, h.pc, h.slot⟩

theorem State.mac_setMac (u : State) (v : BitVec 64) : (u.setMac v).mac = v :=
  BitVec.extractLsb'_append_extractLsb' (w := 32) (len := 32)

theorem State.mac_advance (u : State) : u.advance.mac = u.mac := by simp [State.mac]

/-- `MAC.L` with S = 1: the sum clamped to 48 bits (R199). -/
theorem macLongResult_saturated (acc : BitVec 64) (a b : Word) :
    (macLongResult true acc a b).toInt = max (-2 ^ 47) (min (2 ^ 47 - 1) (acc.toInt + a.toInt * b.toInt)) := by
  rw [macLongResult]
  generalize acc.toInt + a.toInt * b.toInt = sum
  by_cases hlow : sum < -(2 ^ 47)
  · simp only [hlow, decide_true, Bool.and_self, if_true]
    rw [show (0xFFFF800000000000 : BitVec 64).toInt = -2 ^ 47 from by decide]
    omega
  · by_cases hhigh : 2 ^ 47 - 1 < sum
    · simp only [hlow, hhigh, decide_true, decide_false, Bool.and_self, Bool.and_false, Bool.false_eq_true, if_true, if_false]
      rw [show (0x00007FFFFFFFFFFF : BitVec 64).toInt = 2 ^ 47 - 1 from by decide]
      omega
    · simp only [hlow, hhigh, decide_false, Bool.and_false, Bool.false_eq_true, if_false]
      rw [BitVec.toInt_ofInt_eq_self (by decide) (by omega) (by omega)]
      omega

/-- Settles O40. -/
theorem macLongResultLaw : Obligations.MacLongResult := by
  intro s n m a b ha hb
  obtain ⟨p, q, hstate⟩ := reads_state ha hb
  obtain ⟨hdistinct, hsame⟩ := stepBoth_r s b.state n m 4
  refine completes_of_done (exec_macL_of_reads ha hb) ⟨fun hS => ?_, fun hS => ?_, fun hne => ?_, fun heq => ?_,
    ((keepsExcept_stepBoth s b.state n m 4).setMac _).frame_advance, ?_, ?_, ?_⟩
  · rw [State.mac_advance, State.mac_setMac, hS]
    rfl
  · rw [State.mac_advance, State.mac_setMac, hS, macLongResult_saturated]
  · simpa using hdistinct hne
  · simpa [BitVec.add_assoc] using hsame heq
  · simp [State.stepBoth, hstate]
  · constructor <;> simp [State.stepBoth, hstate]
  · constructor <;> simp [State.stepBoth, hstate]

theorem macWordLow_saturated {u : State} (x y : Half) (hS : u.satS = true) :
    (macWordLow u x y).toInt = max (-2 ^ 31) (min (2 ^ 31 - 1) (u.macl.toInt + x.toInt * y.toInt)) := by
  rw [macWordLow, hS, Bool.not_true, if_neg Bool.false_ne_true, macWordSum]
  generalize u.macl.toInt + x.toInt * y.toInt = sum
  by_cases hlow : sum < -(2 ^ 31)
  · rw [if_pos hlow, show (0x80000000 : Word).toInt = -2 ^ 31 from by decide]
    omega
  · by_cases hhigh : 2 ^ 31 - 1 < sum
    · rw [if_neg hlow, if_pos hhigh, show (0x7FFFFFFF : Word).toInt = 2 ^ 31 - 1 from by decide]
      omega
    · rw [if_neg hlow, if_neg hhigh, BitVec.toInt_ofInt_eq_self (by decide) (by omega) (by omega)]
      omega

theorem macWordHigh_of_inRange {u : State} {x y : Half} (hS : u.satS = true) (hlow : -2 ^ 31 ≤ macWordSum u x y)
    (hhigh : macWordSum u x y < 2 ^ 31) : macWordHigh u x y = u.mach := by
  have hno : macWordOverflows u x y = false := by
    simp only [macWordOverflows, hS, Bool.true_and, Bool.or_eq_false_iff, decide_eq_false_iff_not]
    omega
  rw [macWordHigh, hS, Bool.not_true, if_neg Bool.false_ne_true, hno, if_neg Bool.false_ne_true]

theorem mac_macWord_of_unsaturated {u : State} (x y : Half) (hS : u.satS = false) :
    (u.macWord x y).mac = macWordWide u x y := by
  have hhigh : macWordHigh u x y = (macWordWide u x y).extractLsb' 32 32 := by rw [macWordHigh, hS]; rfl
  have hlow : macWordLow u x y = (macWordWide u x y).extractLsb' 0 32 := by rw [macWordLow, hS]; rfl
  rw [State.mac, State.macWord, hhigh, hlow]
  exact BitVec.extractLsb'_append_extractLsb' (w := 32) (len := 32)

/-- Settles O41. -/
theorem macWordResult : Obligations.MacWordResult := by
  intro s n m a b ha hb
  obtain ⟨p, q, hstate⟩ := reads_state ha hb
  obtain ⟨hdistinct, hsame⟩ := stepBoth_r s b.state n m 2
  have hlow (v : Word) : v.extractLsb' 0 16 = v.setWidth 16 := (BitVec.setWidth_eq_extractLsb' (by decide)).symm
  have hsat : (s.stepBoth b.state n m 2).satS = s.satS := by simp [State.stepBoth, State.satS, hstate]
  have hmach : (s.stepBoth b.state n m 2).mach = s.mach := by simp [State.stepBoth, hstate]
  have hmacl : (s.stepBoth b.state n m 2).macl = s.macl := by simp [State.stepBoth, hstate]
  have hmac : (s.stepBoth b.state n m 2).mac = s.mac := by rw [State.mac, State.mac, hmach, hmacl]
  have hk := (keepsExcept_stepBoth s b.state n m 2).frame_advance
  rw [State.advance_eq] at hk
  refine completes_of_done (exec_macW_of_reads ha hb) ?_
  simp only [hlow]
  rw [State.advance_eq]
  refine ⟨fun hS => ?_, fun hS => ?_, fun hS hmin hmax => ?_, hdistinct, fun heq => ?_, ?_⟩
  · refine (mac_macWord_of_unsaturated _ _ (hsat.trans hS)).trans ?_
    rw [macWordWide, hmac]
  · rw [← hmacl]
    exact macWordLow_saturated _ _ (hsat.trans hS)
  · rw [← hmacl] at hmin hmax
    exact (macWordHigh_of_inRange (hsat.trans hS) hmin hmax).trans hmach
  · exact (hsame heq).trans (BitVec.add_assoc _ _ _)
  · refine ⟨⟨fun j hj => (hk.regs.r j hj).trans (by simp [hstate]), fun k => (hk.regs.other k).trans (by simp [hstate])⟩,
      fun i hi => (hk.sr i hi).trans (by simp [hstate]), ?_,
      ⟨hk.moved.pc.trans (State.nextPc_congr (by simp [hstate]) (by simp [hstate])), rfl⟩,
      hk.hidden.irqs.trans (by simp [hstate]), hk.hidden.asleep.trans (by simp [hstate]), hk.hidden.special,
      hk.hidden.cfg.trans (by simp [hstate]), ?_, ?_, ?_⟩
    · constructor <;> simp [State.stepBoth, hstate]
    · simp [State.stepBoth, hstate]
    · constructor <;> simp [State.stepBoth, hstate]
    · constructor <;> simp [State.stepBoth, hstate]

end Sys2Proof.Machine
end

section
/-! SUPPORT. The FPU's forms: those without a step, the moves, the operations on bits and the arithmetic as its shared
operations (O32, O53 to O55). -/

namespace Sys2Proof.Machine

/-! ### The guards of an FPU instruction -/

section Guards

variable {s : State} {n m : FReg} (k : Out)

theorem evenField_of_single (h : s.double = false) : evenField s n k = k := by
  rw [evenField, h]
  rfl

theorem evenField_of_even (h : n.getLsbD 0 = false) : evenField s n k = k := by
  rw [evenField, oddField, h, Bool.and_false]
  rfl

theorem evenField_of_odd (hd : s.double = true) (h : n.getLsbD 0 = true) :
    evenField s n k = .refused .oddPairField := by
  rw [evenField, oddField, hd, h]
  rfl

theorem evenFields_of_odd (hd : s.double = true) (h : n.getLsbD 0 = true ∨ m.getLsbD 0 = true) :
    evenField s n (evenField s m k) = .refused .oddPairField := by
  rcases h with hn | hm
  · exact evenField_of_odd _ hd hn
  · rw [evenField_of_odd k hd hm, evenField, ite_self]

theorem singleOnly_of_single (h : s.double = false) : singleOnly s k = k := by
  rw [singleOnly, h]
  rfl

theorem singleOnly_of_double (h : s.double = true) : singleOnly s k = .refused .singleOnlyForm := if_pos h

theorem doubleOnly_of_single (h : s.double = false) : doubleOnly s n k = .refused .doubleOnlyForm := by
  rw [doubleOnly, h]
  rfl

theorem doubleOnly_of_double (h : s.double = true) : doubleOnly s n k = evenField s n k := by
  rw [doubleOnly, evenField, h]
  rfl

end Guards

/-! ### The forms without a step (O32) -/

/-- Settles O32: each guard in the order in which the instruction asks it. -/
theorem fpuFormsRefused : Obligations.FpuFormsRefused := by
  intro s n m hfd
  have on {i : Instr} {k r : Out} (h : exec i s = fpu s k) (hk : k = r) : exec i s = r :=
    (h.trans (fpu_of_on _ hfd)).trans hk
  simp only [List.forall_mem_cons, List.not_mem_nil, false_imp_iff, implies_true, and_true]
  refine ⟨fun hd hodd => ?pairOdd, fun hd hodd => ?oneOdd, fun hd => ?singleOnly, fun hd => ?doubleOnly,
    fun hcfg hrm hd => ?roundingSingle, fun hcfg hrm hd hn hm => ?roundingDouble⟩
  case pairOdd =>
    exact ⟨on (exec_fadd s n m) (evenFields_of_odd _ hd hodd), on (exec_fsub s n m) (evenFields_of_odd _ hd hodd),
      on (exec_fmul s n m) (evenFields_of_odd _ hd hodd), on (exec_fdiv s n m) (evenFields_of_odd _ hd hodd),
      on (exec_fcmpeq s n m) (evenFields_of_odd _ hd hodd), on (exec_fcmpgt s n m) (evenFields_of_odd _ hd hodd)⟩
  case oneOdd =>
    have convert (k : Out) : doubleOnly s n k = .refused .oddPairField :=
      (doubleOnly_of_double k hd).trans (evenField_of_odd k hd hodd)
    exact ⟨on (exec_fsqrt s n) (evenField_of_odd _ hd hodd), on (exec_float s n) (evenField_of_odd _ hd hodd),
      on (exec_ftrc s n) (evenField_of_odd _ hd hodd), on (exec_fcnvsd s n) (convert _), on (exec_fcnvds s n) (convert _)⟩
  case singleOnly =>
    exact ⟨on (exec_fmac s n m) (singleOnly_of_double _ hd), on (exec_fldi0 s n) (singleOnly_of_double _ hd),
      on (exec_fldi1 s n) (singleOnly_of_double _ hd)⟩
  case doubleOnly =>
    exact ⟨on (exec_fcnvsd s n) (doubleOnly_of_single _ hd), on (exec_fcnvds s n) (doubleOnly_of_single _ hd)⟩
  case roundingSingle =>
    have both (k : Out) : evenField s n (evenField s m (rounding s k)) = .refused .roundingMode :=
      (evenField_of_single _ hd).trans ((evenField_of_single _ hd).trans (rounding_of_reserved k hcfg hrm))
    have one (k : Out) : evenField s n (rounding s k) = .refused .roundingMode :=
      (evenField_of_single _ hd).trans (rounding_of_reserved k hcfg hrm)
    refine ⟨on (exec_fadd s n m) (both _), on (exec_fsub s n m) (both _), on (exec_fmul s n m) (both _),
      on (exec_fdiv s n m) (both _), on (exec_fsqrt s n) (one _),
      on (exec_fmac s n m) ((singleOnly_of_single _ hd).trans (rounding_of_reserved _ hcfg hrm)),
      on (exec_float s n) ?_⟩
    rw [hd]
    exact one _
  case roundingDouble =>
    have both (k : Out) : evenField s n (evenField s m (rounding s k)) = .refused .roundingMode :=
      (evenField_of_even _ hn).trans ((evenField_of_even _ hm).trans (rounding_of_reserved k hcfg hrm))
    have one (k : Out) : evenField s n (rounding s k) = .refused .roundingMode :=
      (evenField_of_even _ hn).trans (rounding_of_reserved k hcfg hrm)
    exact ⟨on (exec_fadd s n m) (both _), on (exec_fsub s n m) (both _), on (exec_fmul s n m) (both _),
      on (exec_fdiv s n m) (both _), on (exec_fsqrt s n) (one _),
      on (exec_fcnvds s n) ((doubleOnly_of_double _ hd).trans (one _))⟩

/-! ### The frame of a write to FPU registers -/

/-- `FpuFrame` before the PC has moved on, as `KeepsExcept` is to `Frame`. -/
structure FpuKeeps (s u : State) (cells : List (Bool × FReg)) (regs : List Reg) : Prop where
  rest : ∀ b g, (b, g) ∉ cells → u.fb b g = s.fb b g
  fpscr : u.fpscr = s.fpscr
  fpul : u.fpul = s.fpul
  keeps : KeepsExcept s u regs []
  acc : SameAcc s u
  mem : SameMem s u

@[simp] theorem State.fb_advance (s : State) (b : Bool) (f : FReg) : s.advance.fb b f = s.fb b f := by
  simp [State.fb]

@[simp] theorem State.frBank_advance (s : State) : s.advance.frBank = s.frBank := by simp [State.frBank]

@[simp] theorem State.fr_advance (s : State) (f : FReg) : s.advance.fr f = s.fr f := by simp [State.fr]

@[simp] theorem State.dr_advance (s : State) (f : FReg) : s.advance.dr f = s.dr f := by simp [State.dr]

@[simp] theorem State.pair_advance (s : State) (f : FReg) : s.advance.pair f = s.pair f := by
  simp [State.pair, State.pairBank]

theorem KeepsExcept.setFb {s u : State} {regs : List Reg} {bits : List Nat} (h : KeepsExcept s u regs bits) (o : Bool)
    (f : FReg) (v : Word) : KeepsExcept s (u.setFb o f v) regs bits :=
  ⟨⟨h.regs.r, h.regs.other⟩, h.sr,
    ⟨h.control.gbr, h.control.vbr, h.control.ssr, h.control.spc, h.control.sgr, h.control.dbr⟩,
    ⟨h.hidden.irqs, h.hidden.asleep, h.hidden.special, h.hidden.freeCtr, h.hidden.cfg⟩, h.pc, h.slot⟩

namespace FpuKeeps

variable {s u : State} {cells : List (Bool × FReg)} {regs : List Reg}

theorem refl (s : State) (cells : List (Bool × FReg)) (regs : List Reg) : FpuKeeps s s cells regs :=
  ⟨fun _ _ _ => rfl, rfl, rfl, KeepsExcept.refl s regs [], ⟨rfl, rfl, rfl⟩, ⟨fun _ => rfl, rfl⟩⟩

theorem setFb (h : FpuKeeps s u cells regs) {o : Bool} {f : FReg} (v : Word) (hf : (o, f) ∈ cells) :
    FpuKeeps s (u.setFb o f v) cells regs where
  rest b g hg := by
    have hne : ¬ (b = o ∧ g = f) := fun ⟨hb, hgf⟩ => hg (hb ▸ hgf ▸ hf)
    rw [State.fb_setFb, if_neg hne]
    exact h.rest b g hg
  fpscr := h.fpscr
  fpul := h.fpul
  keeps := h.keeps.setFb o f v
  acc := ⟨h.acc.mach, h.acc.macl, h.acc.pr⟩
  mem := ⟨h.mem.byte, h.mem.stored⟩

theorem frBank_eq (h : FpuKeeps s u cells regs) : u.frBank = s.frBank := by
  rw [State.frBank, h.fpscr, State.frBank]

theorem setDr (h : FpuKeeps s u cells regs) {f : FReg} (v : BitVec 64) (heven : (s.frBank, evenReg f) ∈ cells)
    (hodd : (s.frBank, oddReg f) ∈ cells) : FpuKeeps s (u.setDr f v) cells regs := by
  rw [← h.frBank_eq] at heven hodd
  exact (h.setFb _ heven).setFb _ hodd

theorem setPair (h : FpuKeeps s u cells regs) {f : FReg} (v : Word × Word)
    (heven : (u.pairBank f, evenReg f) ∈ cells) (hodd : (u.pairBank f, oddReg f) ∈ cells) :
    FpuKeeps s (u.setPair f v) cells regs :=
  (h.setFb _ heven).setFb _ hodd

theorem setR (h : FpuKeeps s u cells regs) {n : Reg} (v : Word) (hn : n ∈ regs) :
    FpuKeeps s (u.setR n v) cells regs :=
  { rest := h.rest, fpscr := h.fpscr, fpul := h.fpul, keeps := h.keeps.setR v hn, acc := h.acc.setR n v
    mem := ⟨h.mem.byte, h.mem.stored⟩ }

theorem advance (h : FpuKeeps s u cells regs) : FpuFrame s u.advance cells regs where
  rest b g hg := (State.fb_advance u b g).trans (h.rest b g hg)
  fpscr := (State.advance_fpscr u).trans h.fpscr
  fpul := (State.advance_fpul u).trans h.fpul
  frame := h.keeps.frame_advance
  acc := h.acc.advance
  mem := h.mem.advance

end FpuKeeps

/-! ### One FPU register, one pair, FPUL -/

theorem frResult_of_done {i : Instr} {s : State} {f : FReg} {v : Word} (h : exec i s = done (s.setFr f v)) :
    FrResult i s f v :=
  completes_of_done h ⟨by rw [State.fr_advance, State.fr_setFr, if_pos rfl],
    ((FpuKeeps.refl s _ []).setFb v (by simp)).advance⟩

theorem drResult_of_done {i : Instr} {s : State} {f : FReg} {v : BitVec 64} (h : exec i s = done (s.setDr f v)) :
    DrResult i s f v :=
  completes_of_done h ⟨by rw [State.dr_advance, State.dr_setDr],
    ((FpuKeeps.refl s _ []).setDr v (by simp) (by simp)).advance⟩

theorem fpulResult_of_done {i : Instr} {s : State} {v : Word} (h : exec i s = done { s with fpul := v }) :
    FpulResult i s v := by
  rw [FpulResult, State.advance_eq]
  exact h.trans (done_eq _)

/-! ### The operations on bits (O54) -/

theorem setBit_not_eq_xor (w : Word) : setBit w 20 (!w.getLsbD 20) = w ^^^ 0x00100000 := by
  refine BitVec.eq_of_getLsbD_eq fun k hk => ?_
  rw [getLsbD_setBit _ _ _ _ (by decide), BitVec.getLsbD_xor, show (0x00100000 : Word) = BitVec.twoPow 32 20 from rfl,
    BitVec.getLsbD_twoPow]
  by_cases h : k = 20
  · simp [h]
  · simp [h, Ne.symm h]

/-- Settles O54. -/
theorem fpuBitResults : Obligations.FpuBitResults := by
  intro s n hfd
  have on {i : Instr} {k : Out} (h : exec i s = fpu s k) : exec i s = k := h.trans (fpu_of_on _ hfd)
  refine ⟨frResult_of_done (on (exec_fsts s n)), fpulResult_of_done (on (exec_flds s n)),
    frResult_of_done (on (exec_fneg s n)), frResult_of_done (on (exec_fabs s n)), fun hd =>
      ⟨frResult_of_done ((on (exec_fldi0 s n)).trans (singleOnly_of_single _ hd)),
        frResult_of_done ((on (exec_fldi1 s n)).trans (singleOnly_of_single _ hd))⟩,
    completes_of_done (on (exec_fschg s)) ?_⟩
  have h : KeepsExcept s { s with fpscr := setBit s.fpscr 20 (!s.sz) } [] [] :=
    ⟨⟨fun _ _ => rfl, fun _ => rfl⟩, fun _ _ => rfl, ⟨rfl, rfl, rfl, rfl, rfl, rfl⟩, ⟨rfl, rfl, rfl, rfl, rfl⟩, rfl, rfl⟩
  refine ⟨?_, fun b g => State.fb_advance _ b g, State.advance_fpul _, h.frame_advance,
    SameAcc.advance ⟨rfl, rfl, rfl⟩, SameMem.advance ⟨fun _ => rfl, rfl⟩⟩
  exact (State.advance_fpscr _).trans (setBit_not_eq_xor s.fpscr)

/-! ### The arithmetic (O55) -/

theorem fpTest_of_single {s : State} {o1 o2 : FpOp} {g : FpVal → FpVal → Bool} {n m : FReg} (h : s.double = false) :
    fpTest s o1 o2 g n m = fpCompare s fmtSingle o1 g ((s.fr n).setWidth 64) ((s.fr m).setWidth 64) := by
  rw [fpTest, h]
  rfl

theorem fpTest_of_double {s : State} {o1 o2 : FpOp} {g : FpVal → FpVal → Bool} {n m : FReg} (h : s.double = true) :
    fpTest s o1 o2 g n m = fpCompare s fmtDouble o2 g (s.dr n) (s.dr m) := by
  rw [fpTest, h]
  rfl

section Arithmetic

variable {s : State} {n m : FReg}

theorem single_roundingResults (hfd : s.fd = false) (hd : s.double = false) (hr : s.RoundingRuns) :
    FrResult (.fadd n m) s n ((fpBinary s fmtSingle .add32 fpAdd ((s.fr n).setWidth 64)
      ((s.fr m).setWidth 64)).setWidth 32)
    ∧ FrResult (.fsub n m) s n ((fpBinary s fmtSingle .sub32 fpSub ((s.fr n).setWidth 64)
      ((s.fr m).setWidth 64)).setWidth 32)
    ∧ FrResult (.fmul n m) s n ((fpBinary s fmtSingle .mul32 fpMul ((s.fr n).setWidth 64)
      ((s.fr m).setWidth 64)).setWidth 32)
    ∧ FrResult (.fdiv n m) s n ((fpBinary s fmtSingle .div32 (fpDiv fmtSingle) ((s.fr n).setWidth 64)
      ((s.fr m).setWidth 64)).setWidth 32)
    ∧ FrResult (.fsqrt n) s n ((fpUnary s fmtSingle .sqrt32 (fpSqrt fmtSingle) ((s.fr n).setWidth 64)).setWidth 32)
    ∧ FrResult (.fmac n m) s n (fpMac s (s.fr 0) (s.fr m) (s.fr n))
    ∧ FrResult (.float n) s n (fpFloat32 s s.fpul) := by
  have on {i : Instr} {k : Out} (h : exec i s = fpu s k) : exec i s = k := h.trans (fpu_of_on _ hfd)
  have two {i : Instr} {o1 o2 : FpOp} {g : FpFormat → FpVal → FpVal → FpVal}
      (h : exec i s = fpu s (evenField s n (evenField s m (rounding s (done (fpArith s o1 o2 g n m)))))) :
      FrResult i s n ((fpBinary s fmtSingle o1 (g fmtSingle) ((s.fr n).setWidth 64)
        ((s.fr m).setWidth 64)).setWidth 32) := by
    refine frResult_of_done ((on h).trans ?_)
    rw [evenField_of_single _ hd, evenField_of_single _ hd, rounding_of_runs _ hr, fpArith_single hd]
  refine ⟨two (exec_fadd s n m), two (exec_fsub s n m), two (exec_fmul s n m), two (exec_fdiv s n m),
    frResult_of_done ((on (exec_fsqrt s n)).trans ?_),
    frResult_of_done ((on (exec_fmac s n m)).trans ((singleOnly_of_single _ hd).trans (rounding_of_runs _ hr))),
    frResult_of_done ((on (exec_float s n)).trans ?_)⟩
  · rw [hd]
    exact (evenField_of_single _ hd).trans (rounding_of_runs _ hr)
  · rw [hd]
    exact (evenField_of_single _ hd).trans (rounding_of_runs _ hr)

theorem double_roundingResults (hfd : s.fd = false) (hd : s.double = true) (hn : n.getLsbD 0 = false)
    (hm : m.getLsbD 0 = false) (hr : s.RoundingRuns) :
    DrResult (.fadd n m) s n (fpBinary s fmtDouble .add64 fpAdd (s.dr n) (s.dr m))
    ∧ DrResult (.fsub n m) s n (fpBinary s fmtDouble .sub64 fpSub (s.dr n) (s.dr m))
    ∧ DrResult (.fmul n m) s n (fpBinary s fmtDouble .mul64 fpMul (s.dr n) (s.dr m))
    ∧ DrResult (.fdiv n m) s n (fpBinary s fmtDouble .div64 (fpDiv fmtDouble) (s.dr n) (s.dr m))
    ∧ DrResult (.fsqrt n) s n (fpUnary s fmtDouble .sqrt64 (fpSqrt fmtDouble) (s.dr n))
    ∧ FpulResult (.fcnvds n) s (fpCnvds s (s.dr n)) := by
  have on {i : Instr} {k : Out} (h : exec i s = fpu s k) : exec i s = k := h.trans (fpu_of_on _ hfd)
  have two {i : Instr} {o1 o2 : FpOp} {g : FpFormat → FpVal → FpVal → FpVal}
      (h : exec i s = fpu s (evenField s n (evenField s m (rounding s (done (fpArith s o1 o2 g n m)))))) :
      DrResult i s n (fpBinary s fmtDouble o2 (g fmtDouble) (s.dr n) (s.dr m)) := by
    refine drResult_of_done ((on h).trans ?_)
    rw [evenField_of_even _ hn, evenField_of_even _ hm, rounding_of_runs _ hr, fpArith_double hd]
  refine ⟨two (exec_fadd s n m), two (exec_fsub s n m), two (exec_fmul s n m), two (exec_fdiv s n m),
    drResult_of_done ((on (exec_fsqrt s n)).trans ?_), fpulResult_of_done ((on (exec_fcnvds s n)).trans ?_)⟩
  · rw [hd]
    exact (evenField_of_even _ hn).trans (rounding_of_runs _ hr)
  · rw [doubleOnly_of_double _ hd, evenField_of_even _ hn, rounding_of_runs _ hr]

end Arithmetic

/-- Settles O55: every guard passes, and then the instruction writes the result of its shared operation. -/
theorem fpuArithmeticResults : Obligations.FpuArithmeticResults := by
  intro s n m hfd
  have on {i : Instr} {k : Out} (h : exec i s = fpu s k) : exec i s = k := h.trans (fpu_of_on _ hfd)
  refine ⟨fun hd => ⟨single_roundingResults hfd hd, ?truncSingle, ?eqSingle, ?gtSingle⟩,
    fun hd hn hm => ⟨double_roundingResults hfd hd hn hm, ?floatDouble, ?truncDouble, ?convert, ?eqDouble, ?gtDouble⟩⟩
  case truncSingle =>
    refine fpulResult_of_done ((on (exec_ftrc s n)).trans ((evenField_of_single _ hd).trans ?_))
    rw [hd]
    rfl
  case eqSingle =>
    exact flagResult_of_done ((on (exec_fcmpeq s n m)).trans ((evenField_of_single _ hd).trans
      (evenField_of_single _ hd))) (fpTest_of_single hd)
  case gtSingle =>
    exact flagResult_of_done ((on (exec_fcmpgt s n m)).trans ((evenField_of_single _ hd).trans
      (evenField_of_single _ hd))) (fpTest_of_single hd)
  case floatDouble =>
    refine drResult_of_done ((on (exec_float s n)).trans ((evenField_of_even _ hn).trans ?_))
    rw [hd]
    rfl
  case truncDouble =>
    refine fpulResult_of_done ((on (exec_ftrc s n)).trans ((evenField_of_even _ hn).trans ?_))
    rw [hd]
    rfl
  case convert =>
    exact drResult_of_done ((on (exec_fcnvsd s n)).trans ((doubleOnly_of_double _ hd).trans (evenField_of_even _ hn)))
  case eqDouble =>
    exact flagResult_of_done ((on (exec_fcmpeq s n m)).trans ((evenField_of_even _ hn).trans (evenField_of_even _ hm)))
      (fpTest_of_double hd)
  case gtDouble =>
    exact flagResult_of_done ((on (exec_fcmpgt s n m)).trans ((evenField_of_even _ hn).trans (evenField_of_even _ hm)))
      (fpTest_of_double hd)

/-! ### The moves (O53) -/

/-- What an `FMOV` does to its address register: nothing, or the step that the statement lists (R369). -/
structure StepsAddress (after : State → State) (regs : List Reg) : Prop where
  keeps : ∀ {s u : State}, KeepsExcept s u regs [] → KeepsExcept s (after u) regs []
  fb : ∀ u b f, (after u).fb b f = u.fb b f
  fpscr : ∀ u, (after u).fpscr = u.fpscr
  fpul : ∀ u, (after u).fpul = u.fpul
  acc : ∀ {s u}, SameAcc s u → SameAcc s (after u)
  fpu : ∀ {s u}, SameFpu s u → SameFpu s (after u)
  mem : ∀ u, (after u).mem = u.mem
  stored : ∀ u, (after u).stored = u.stored

theorem stepsAddress_id : StepsAddress id [] :=
  ⟨id, fun _ _ _ => rfl, fun _ => rfl, fun _ => rfl, id, id, fun _ => rfl, fun _ => rfl⟩

theorem stepsAddress_setR (m : Reg) (v : Word) : StepsAddress (fun t => t.setR m v) [m] :=
  ⟨fun h => h.setR v (by simp), fun _ _ _ => rfl, fun _ => rfl, fun _ => rfl, fun h => h.setR m v, fun h => h.setR m v,
    fun _ => rfl, fun _ => rfl⟩

theorem StepsAddress.fr_advance {after : State → State} {regs : List Reg} (ha : StepsAddress after regs) (u : State)
    (f : FReg) : (after u).advance.fr f = u.fr f := by
  rw [State.fr_advance, State.fr, ha.fb, State.frBank, ha.fpscr, State.fr, State.frBank]

theorem StepsAddress.pair_advance {after : State → State} {regs : List Reg} (ha : StepsAddress after regs) (u : State)
    (f : FReg) : (after u).advance.pair f = u.pair f := by
  have hbank : (after u).pairBank f = u.pairBank f := by
    rw [State.pairBank, State.pairBank, State.frBank, ha.fpscr, State.frBank]
  rw [State.pair_advance, State.pair, ha.fb, ha.fb, hbank, State.pair]

theorem FpuKeeps.after {s u : State} {cells : List (Bool × FReg)} {regs : List Reg} {after : State → State}
    (h : FpuKeeps s u cells regs) (ha : StepsAddress after regs) : FpuKeeps s (after u) cells regs where
  rest b g hg := (ha.fb u b g).trans (h.rest b g hg)
  fpscr := (ha.fpscr u).trans h.fpscr
  fpul := (ha.fpul u).trans h.fpul
  keeps := ha.keeps h.keeps
  acc := ha.acc h.acc
  mem := ⟨fun a => (congrArg (memGet · a) (ha.mem u)).trans (h.mem.byte a), (ha.stored u).trans h.mem.stored⟩

theorem pair_setPair (s : State) (f : FReg) (v : Word × Word) : (s.setPair f v).pair f = v := by
  have hne := evenReg_ne_oddReg f
  have hbank : (s.setPair f v).pairBank f = s.pairBank f := rfl
  rw [State.pair, hbank, State.setPair]
  simp [State.fb_setFb, hne]

section Fmov

variable {i : Instr} {s : State} {n : FReg} {ea : Word} {after : State → State}

@[simp] theorem State.fb_noteRead (s : State) (sz : Size) (p : Place) (b : Bool) (f : FReg) :
    (s.noteRead sz p).fb b f = s.fb b f := by cases p <;> rfl

@[simp] theorem State.frBank_noteRead (s : State) (sz : Size) (p : Place) : (s.noteRead sz p).frBank = s.frBank := by
  cases p <;> rfl

@[simp] theorem State.pairBank_noteRead (s : State) (sz : Size) (p : Place) (f : FReg) :
    (s.noteRead sz p).pairBank f = s.pairBank f := by cases p <;> rfl

theorem fmovLoad_single {p : Place} (hsz : s.sz = false) (hp : s.check .read .l ea = .ok p) :
    fmovLoad s ea n after = done (after ((s.noteRead .l p).setFb s.frBank n (s.valueAt s.cfg.endianLocal .l p))) := by
  have h : fmovLoad s ea n after = orStop s (s.read .l ea) fun r => done (after (r.state.setFr n r.value)) :=
    if_neg (by rw [hsz]; exact Bool.false_ne_true)
  rw [h, read_of_check hp, orStop_ok, State.setFr]
  exact congrArg (fun b => done (after ((s.noteRead .l p).setFb b n (s.valueAt s.cfg.endianLocal .l p))))
    (State.frBank_noteRead s .l p)

theorem fmovLoad_pair {hi lo : Place} (hsz : s.sz = true) (hp : s.checkPair .read ea = .ok (hi, lo)) :
    fmovLoad s ea n after = done (after (((s.noteRead .l hi).noteRead .l lo).setPair n
      (s.valueAt s.cfg.endianLocal .l hi, (s.noteRead .l hi).valueAt s.cfg.endianLocal .l lo))) := by
  have h : fmovLoad s ea n after = orStop s (s.readPair ea) fun r => done (after (r.state.setPair n r.value)) :=
    if_pos hsz
  rw [h, State.readPair, hp]
  rfl

theorem fmovLoadResult {regs : List Reg} {P : State → Prop} (hi : exec i s = fmovLoad s ea n after)
    (ha : StepsAddress after regs) (hP : ∀ u : State, P (after u).advance) : FmovLoadResult i s n ea regs P := by
  refine ⟨fun p hsz hp => ?_, fun hiPlace lo hsz hp => ?_⟩
  · refine completes_of_done (hi.trans (fmovLoad_single hsz hp)) ⟨?_,
      (((FpuKeeps.refl (s.noteRead .l p) _ regs).setFb _ (by simp)).after ha).advance, hP _⟩
    rw [ha.fr_advance, State.fr, State.frBank_setFb, State.frBank_noteRead, State.fb_setFb, if_pos ⟨rfl, rfl⟩]
  · refine completes_of_done (hi.trans (fmovLoad_pair hsz hp)) ⟨?_,
      (((FpuKeeps.refl _ _ regs).setPair _ (by simp) (by simp)).after ha).advance, hP _⟩
    rw [ha.pair_advance, pair_setPair]

/-- The frame of two stores, as `keepsExcept_storeTo` of one. -/
theorem keepsExcept_storeTo_storeTo (s : State) (v : Word × Word) (hi lo : Place) (regs : List Reg) (bits : List Nat) :
    KeepsExcept ((s.noteWrite .l v.1 hi).noteWrite .l v.2 lo) ((s.storeTo .l v.1 hi).storeTo .l v.2 lo) regs bits := by
  cases hi <;> cases lo <;> exact ⟨⟨fun _ _ => rfl, fun _ => rfl⟩, fun _ _ => rfl, ⟨rfl, rfl, rfl, rfl, rfl, rfl⟩,
    ⟨rfl, rfl, rfl, rfl, rfl⟩, rfl, rfl⟩

/-- A value stored beside another is not changed by it (R369). -/
theorem loadAt_storeTo_storeTo_first {v : Word × Word} {loc : Nat} {lo : Place} (w : Memory.wf s.mem = true)
    (hlo : lo.loc = loc + 4) (hbound : loc + 8 ≤ 2 ^ 32) :
    loadAt s.cfg.endianLocal .l ((s.storeAt .l loc v.1).storeTo .l v.2 lo).mem loc = v.1 := by
  have hwf : Memory.wf (s.storeAt .l loc v.1).mem = true := storeAt_memWf w (by simp only [Size.bytes]; omega)
  refine (loadAt_congr fun i hi => ?_).trans (loadAt_storeAt w (by simp only [Size.bytes]; omega))
  refine storeTo_outside hwf (by simp only [Size.bytes]; omega) fun l hl => .inl ?_
  subst hl
  simp only [Place.loc] at hlo
  simp only [Size.bytes] at hi
  omega

theorem StepsAddress.mem_advance {regs : List Reg} (ha : StepsAddress after regs) (u : State) :
    (after u).advance.mem = u.mem := (State.advance_mem _).trans (ha.mem u)

theorem StepsAddress.stored_advance {regs : List Reg} (ha : StepsAddress after regs) (u : State) :
    (after u).advance.stored = u.stored := (State.advance_stored _).trans (ha.stored u)

theorem sameAcc_storeTo_storeTo (s : State) (v : Word × Word) (hi lo : Place) :
    SameAcc s ((s.storeTo .l v.1 hi).storeTo .l v.2 lo) := by
  constructor <;> simp only [State.storeTo_mach, State.storeTo_macl, State.storeTo_pr]

theorem sameFpu_storeTo_storeTo (s : State) (v : Word × Word) (hi lo : Place) :
    SameFpu s ((s.storeTo .l v.1 hi).storeTo .l v.2 lo) := by
  constructor <;> simp only [State.storeTo_fpscr, State.storeTo_fpul, State.storeTo_fb0, State.storeTo_fb1]

theorem storesPair_after {v : Word × Word} {regs : List Reg} {hi lo : Place} (w : Memory.wf s.mem = true)
    (hp : s.checkPair .write ea = .ok (hi, lo)) (ha : StepsAddress after regs) :
    StoresPair s (after ((s.storeTo .l v.1 hi).storeTo .l v.2 lo)).advance hi lo v regs := by
  obtain ⟨-, hloc, hbound⟩ := checkPair_adjacent hp
  have hhi : hi.loc + Size.l.bytes ≤ 2 ^ 32 := by simp only [Size.bytes]; omega
  have hlo : lo.loc + Size.l.bytes ≤ 2 ^ 32 := by simp only [Size.bytes]; omega
  have hwf : Memory.wf (s.storeTo .l v.1 hi).mem = true := storeTo_memWf w hhi
  refine ⟨fun loc h => ?_, fun loc h => ?_, fun a h1 h2 => ?_, fun a => ?_,
    (ha.keeps (keepsExcept_storeTo_storeTo s v hi lo regs [])).frame_advance,
    SameAcc.advance (ha.acc (sameAcc_storeTo_storeTo s v hi lo)), SameFpu.advance (ha.fpu (sameFpu_storeTo_storeTo s v hi lo))⟩
  · subst h
    rw [ha.mem_advance]
    exact loadAt_storeTo_storeTo_first w hloc hbound
  · subst h
    have hvalue := loadAt_storeAt (sz := .l) (v := v.2) hwf hlo
    rw [State.storeTo_cfg] at hvalue
    rw [ha.mem_advance]
    exact hvalue
  · rw [ha.mem_advance]
    exact (storeTo_outside hwf hlo h2).trans (storeTo_outside w hhi h1)
  · rw [ha.stored_advance, State.storeTo_stored, mem_insertLocs, State.storeTo_stored, mem_insertLocs]
    exact or_left_comm

theorem fmovStoreResult {regs : List Reg} {P : State → Prop} (w : Memory.wf s.mem = true)
    (hi : exec i s = fmovStore s ea n after) (ha : StepsAddress after regs) (hP : ∀ u : State, P (after u).advance) :
    FmovStoreResult i s n ea regs P := by
  refine ⟨fun p hsz hp => ?_, fun hiPlace lo hsz hp => ?_⟩
  · obtain ⟨-, -, hbound⟩ := check_ok hp
    have h : fmovStore s ea n after = done (after (s.storeTo .l (s.fr n) p)) := by
      rw [fmovStore, if_neg (by rw [hsz]; exact Bool.false_ne_true), write_of_check hp]
      rfl
    exact completes_of_done (hi.trans h) ⟨(ha.keeps (keepsExcept_storeTo s .l (s.fr n) p regs [])).stores_advance w hbound
      (ha.mem _) (ha.stored _) (ha.acc (sameAcc_storeTo s .l _ p)) (ha.fpu (sameFpu_storeTo s .l _ p)), hP _⟩
  · have h : fmovStore s ea n after =
        done (after ((s.storeTo .l (s.pair n).1 hiPlace).storeTo .l (s.pair n).2 lo)) := by
      rw [fmovStore, if_pos hsz, State.writePair, hp]
      rfl
    exact completes_of_done (hi.trans h) ⟨storesPair_after w hp ha, hP _⟩

end Fmov

/-- Settles O53: the loads and stores by `fmovLoadResult` and `fmovStoreResult`, each with what it does to its address
register. -/
theorem fmovResults : Obligations.FmovResults := by
  intro s n m f g hfd w
  have on {i : Instr} {k : Out} (h : exec i s = fpu s k) : exec i s = k := h.trans (fpu_of_on _ hfd)
  refine ⟨fmovLoadResult (on (exec_fmovLoad s f m)) stepsAddress_id fun _ => trivial,
    fmovLoadResult (on (exec_fmovLoadIdx s f m)) stepsAddress_id fun _ => trivial,
    fmovLoadResult (on (exec_fmovLoadInc s f m)) (stepsAddress_setR m _) fun _ => by simp [State.fmovBytes],
    fmovStoreResult w (on (exec_fmovStore s n g)) stepsAddress_id fun _ => trivial,
    fmovStoreResult w (on (exec_fmovStoreIdx s n g)) stepsAddress_id fun _ => trivial,
    fmovStoreResult w (on (exec_fmovPush s n g)) (stepsAddress_setR n _) fun _ => by simp [State.fmovBytes],
    fun hsz => frResult_of_done ((on (exec_fmovR s f g)).trans ?_), fun hsz => ?_⟩
  · rw [hsz]
    rfl
  · have h : exec (.fmovR f g) s = done (s.setPair f (s.pair g)) := (on (exec_fmovR s f g)).trans (by rw [hsz]; rfl)
    exact completes_of_done h ⟨by rw [State.pair_advance, pair_setPair],
      ((FpuKeeps.refl s _ []).setPair _ (by simp) (by simp)).advance⟩

end Sys2Proof.Machine
end

section
/-! SUPPORT. The checks of a data access: what stops an instruction with nothing done (O27), and where an effective
address lies (O28). -/

namespace Sys2Proof.Machine

/-! ### A stop, by the shape of the access -/

theorem stoppedBy_stopWith {s : State} (ht : s.TakesEvents) (x : Stop) : StoppedBy x s (stopWith s x) := by
  cases x with
  | event e => exact raise_of_takes ht
  | refuse r => rfl

theorem follows_of {α : Type} {c : Except Stop α} {s : State} {out : Out} (ht : s.TakesEvents)
    (hok : ∀ q, c = .ok q → ∃ t, out = .next t) (herror : ∀ x, c = .error x → out = stopWith s x) : Follows c s out := by
  cases c with
  | ok q => exact hok q rfl
  | error x =>
    rw [herror x rfl]
    exact stoppedBy_stopWith ht x

section Shapes

variable {s : State} {sz : Size} {ea v : Word} {ext : Word → Word} {n m : Reg} {x : Stop}

theorem readPc_error (h : s.check .read sz ea = .error x) : s.readPc sz ea = .error x := by
  rw [State.readPc, State.readIn, h]

theorem write_error (h : s.check .write sz ea = .error x) : s.write sz ea v = .error x := by
  rw [State.write, h]

theorem readToModify_error (h : s.check .write sz ea = .error x) : s.readToModify sz ea = .error x := by
  rw [State.readToModify, h]

theorem readToModify_read_error {p : Place} (h : s.check .write sz ea = .ok p) (hx : s.check .read sz ea = .error x) :
    s.readToModify sz ea = .error x := by
  rw [State.readToModify, h]
  exact read_error hx

theorem orStop_of_error {α : Type} {c : Except Stop α} (k : α → Out) (h : c = .error x) : orStop s c k = stopWith s x := by
  rw [h]
  rfl

theorem loadReg_of_error (h : s.check .read sz ea = .error x) : loadReg s sz ext ea n = stopWith s x :=
  orStop_of_error _ (read_error h)

theorem loadInc_of_error (h : s.check .read sz (s.r m) = .error x) : loadInc s sz ext m n = stopWith s x :=
  orStop_of_error _ (read_error h)

theorem storeVal_of_error (h : s.check .write sz ea = .error x) : storeVal s sz ea v = stopWith s x :=
  orStop_of_error _ (write_error h)

theorem pushVal_of_error (h : s.check .write sz (s.r n - BitVec.ofNat 32 sz.bytes) = .error x) :
    pushVal s sz n v = stopWith s x :=
  orStop_of_error _ (write_error h)

theorem fmovLoad_of_stops {f : FReg} {after : State → State} (h : s.Stops ⟨.read, s.fmovWidth, ea⟩ x) :
    fmovLoad s ea f after = stopWith s x := by
  rw [fmovLoad]
  cases hsz : s.sz with
  | false =>
    rw [State.fmovWidth, hsz] at h
    exact orStop_of_error _ (read_error h)
  | true =>
    rw [State.fmovWidth, hsz] at h
    have hpair : s.checkPair .read ea = .error x := h
    exact orStop_of_error _ (by rw [State.readPair, hpair])

theorem fmovStore_of_stops {f : FReg} {after : State → State} (h : s.Stops ⟨.write, s.fmovWidth, ea⟩ x) :
    fmovStore s ea f after = stopWith s x := by
  rw [fmovStore]
  cases hsz : s.sz with
  | false =>
    rw [State.fmovWidth, hsz] at h
    exact orStop_of_error _ (write_error h)
  | true =>
    rw [State.fmovWidth, hsz] at h
    have hpair : s.checkPair .write ea = .error x := h
    exact orStop_of_error _ (by rw [State.writePair, hpair])

end Shapes

/-! ### A stop, instruction by instruction -/

section Instructions

variable {i : Instr} {s : State} {d : DataAccess} {x : Stop}

theorem exec_of_stops_privileged (hi : isPrivileged i = true) (hmd : s.md = true) (hd : dataAccess i s = some d)
    (hx : s.Stops d x) : exec i s = stopWith s x := by
  have supervisor {k : Out} (h : k = stopWith s x) : privileged s k = stopWith s x := (privileged_of_md k hmd).trans h
  cases i
  case stclSr n | stclVbr n | stclSsr n | stclSpc n | stclSgr n =>
    cases hd
    exact supervisor (pushVal_of_error hx)
  case stclBank n k =>
    cases hd
    exact supervisor (pushVal_of_error hx)
  case ldclSr m | ldclVbr m | ldclSsr m | ldclSpc m | ldclSgr m =>
    cases hd
    exact supervisor (orStop_of_error _ (read_error hx))
  case ldclBank m k =>
    cases hd
    exact supervisor (orStop_of_error _ (read_error hx))
  case ldcSr | ldcVbr | ldcSsr | ldcSpc | ldcSgr | ldcBank | stcSr | stcVbr | stcSsr | stcSpc | stcSgr | stcBank | sleep | rte
      => cases hd
  all_goals cases hi

theorem exec_of_stops_fpu (hi : isFpu i = true) (hfd : s.fd = false) (hd : dataAccess i s = some d)
    (hx : s.Stops d x) : exec i s = stopWith s x := by
  have on {k : Out} (h : k = stopWith s x) : fpu s k = stopWith s x := (fpu_of_on k hfd).trans h
  cases i
  case stslFpul n | stslFpscr n =>
    cases hd
    exact on (pushVal_of_error hx)
  case ldslFpul m | ldslFpscr m =>
    cases hd
    exact on (orStop_of_error _ (read_error hx))
  case fmovLoad f m | fmovLoadIdx f m | fmovLoadInc f m =>
    cases hd
    exact on (fmovLoad_of_stops hx)
  case fmovStore n f | fmovStoreIdx n f | fmovPush n f =>
    cases hd
    exact on (fmovStore_of_stops hx)
  case stsFpul | stsFpscr | ldsFpul | ldsFpscr | fadd | fsub | fmul | fdiv | fcmpeq | fcmpgt | fmovR | fsts | flds | float |
      ftrc | fneg | fabs | fsqrt | fldi0 | fldi1 | fcnvsd | fcnvds | fmac | fschg => cases hd
  all_goals cases hi

theorem exec_of_stops_banned (hi : bannedInSlot i = true) (hslot : s.slot = none) (hd : dataAccess i s = some d)
    (hx : s.Stops d x) : exec i s = stopWith s x := by
  cases i
  case movWLoadPc n disp | movLLoadPc n disp =>
    cases hd
    exact (outsideSlot_of_none _ hslot).trans (orStop_of_error _ (readPc_error hx))
  case bra | bsr | bsaf | bsrf | jmp | jsr | rts | rte | bt | bf | bts | bfs | mova | trapa | brk | movi24 => cases hd
  all_goals cases hi

theorem exec_of_stops_load (hi : (isPrivileged i || isFpu i || bannedInSlot i) = false)
    {width : Option Size} {ea : Word} (hd : dataAccess i s = some ⟨.read, width, ea⟩) (hx : s.Stops ⟨.read, width, ea⟩ x) :
    exec i s = stopWith s x := by
  cases i
  case movBLoadIdx n m | movWLoadIdx n m | movLLoadIdx n m | movBLoad n m | movWLoad n m | movLLoad n m =>
    cases hd
    exact loadReg_of_error hx
  case movBLoadDisp m disp | movWLoadDisp m disp =>
    cases hd
    exact loadReg_of_error hx
  case movLLoadDisp n m disp =>
    cases hd
    exact loadReg_of_error hx
  case movBLoadGbr disp | movWLoadGbr disp | movLLoadGbr disp =>
    cases hd
    exact loadReg_of_error hx
  case movBLoadInc n m | movWLoadInc n m | movLLoadInc n m =>
    cases hd
    exact loadInc_of_error hx
  case ldslMach m | ldslMacl m | ldslPr m | ldclGbr m =>
    cases hd
    exact orStop_of_error _ (read_error hx)
  case macL n m | macW n m =>
    cases hd
    exact orStop_of_error _ (read_error hx)
  case tstBGbr imm =>
    cases hd
    exact orStop_of_error _ (read_error hx)
  case ldclSr | ldclVbr | ldclSsr | ldclSpc | ldclSgr | ldclBank | ldslFpul | ldslFpscr | fmovLoad | fmovLoadIdx |
      fmovLoadInc | movWLoadPc | movLLoadPc => cases hi
  all_goals cases hd

theorem exec_of_stops_store (hi : (isPrivileged i || isFpu i || bannedInSlot i) = false)
    {width : Option Size} {ea : Word} (hd : dataAccess i s = some ⟨.write, width, ea⟩)
    (hx : s.Stops ⟨.write, width, ea⟩ x) : exec i s = stopWith s x := by
  cases i
  case movBStoreIdx n m | movWStoreIdx n m | movLStoreIdx n m | movBStore n m | movWStore n m | movLStore n m =>
    cases hd
    exact storeVal_of_error hx
  case movcaL n =>
    cases hd
    exact storeVal_of_error hx
  case movLStoreDisp n m disp =>
    cases hd
    exact storeVal_of_error hx
  case movBStoreDisp n disp | movWStoreDisp n disp =>
    cases hd
    exact storeVal_of_error hx
  case movBStoreGbr disp | movWStoreGbr disp | movLStoreGbr disp =>
    cases hd
    exact storeVal_of_error hx
  case movBPush n m | movWPush n m | movLPush n m =>
    cases hd
    exact pushVal_of_error hx
  case stslMach n | stslMacl n | stslPr n | stclGbr n =>
    cases hd
    exact pushVal_of_error hx
  case tasB m =>
    cases hd
    exact orStop_of_error _ (readToModify_error hx)
  case casL n m =>
    cases hd
    exact orStop_of_error _ (readToModify_error hx)
  case andBGbr imm | xorBGbr imm | orBGbr imm =>
    cases hd
    exact orStop_of_error _ (readToModify_error hx)
  case stclSr | stclVbr | stclSsr | stclSpc | stclSgr | stclBank | stslFpul | stslFpscr | fmovStore | fmovStoreIdx |
      fmovPush => cases hi
  all_goals cases hd

/-- A fetch is no instruction's data access. -/
theorem dataAccess_ne_fetch (i : Instr) (s : State) (width : Option Size) (ea : Word) :
    dataAccess i s ≠ some ⟨.fetch, width, ea⟩ := by
  intro h
  cases i
  all_goals cases h

/-- What the checks of an instruction's access stop it with ends it, with nothing done (R432, R435). -/
theorem exec_of_stops (ha : Admitted i s) (hd : dataAccess i s = some d) (hx : s.Stops d x) :
    exec i s = stopWith s x := by
  obtain ⟨hslot, hmd, hfd⟩ := ha
  cases hp : isPrivileged i with
  | true => exact exec_of_stops_privileged hp (hmd hp) hd hx
  | false =>
    cases hf : isFpu i with
    | true => exact exec_of_stops_fpu hf (hfd hf) hd hx
    | false =>
      cases hb : bannedInSlot i with
      | true => exact exec_of_stops_banned hb (hslot hb) hd hx
      | false =>
        have hplain : (isPrivileged i || isFpu i || bannedInSlot i) = false := by rw [hp, hf, hb]; rfl
        obtain ⟨kind, width, ea⟩ := d
        cases kind with
        | read => exact exec_of_stops_load hplain hd hx
        | write => exact exec_of_stops_store hplain hd hx
        | fetch => exact absurd hd (dataAccess_ne_fetch i s width ea)

end Instructions

/-! ### What stops an access -/

theorem stops_of_misaligned {s : State} {d : DataAccess} (h : d.ea.toNat % d.bytes ≠ 0) :
    s.Stops d (.event (.addressError d.kind d.ea)) := by
  obtain ⟨kind, width, ea⟩ := d
  cases width with
  | some sz => exact check_misaligned h
  | none => exact if_neg h

theorem check_user {s : State} {k : Access} {sz : Size} {ea : Word} (h4 : s.cfg.addrMode = .sh4) (hmd : s.md = false)
    (h : ea.msb = true) : s.check k sz ea = .error (.event (.addressError k ea)) := by
  rw [State.check, hmd, locate_user h4 h, ite_self]

theorem stops_of_user {s : State} {d : DataAccess} (h4 : s.cfg.addrMode = .sh4) (hmd : s.md = false)
    (h : d.ea.msb = true) : s.Stops d (.event (.addressError d.kind d.ea)) := by
  obtain ⟨kind, width, ea⟩ := d
  cases width with
  | some sz => exact check_user h4 hmd h
  | none =>
    have hpair : s.checkPair kind ea = .error (.event (.addressError kind ea)) := by
      rw [State.checkPair, check_user h4 hmd h]
      exact ite_self _
    exact hpair

/-! ### The read after a passed write check, and the second read -/

section Follows

variable {s : State}

theorem takesEvents_noteRead (ht : s.TakesEvents) (sz : Size) (p : Place) : (s.noteRead sz p).TakesEvents := by
  cases p <;> exact ht

theorem modifyByte_follows {ea : Word} {p : Place} (ht : s.TakesEvents) (h : s.check .write .b ea = .ok p)
    (f : Byte → Byte) : Follows (s.check .read .b ea) s (modifyByte s ea f) :=
  follows_of ht (fun _ hq => ⟨_, modifyByte_of_check h hq⟩)
    fun _ hx => orStop_of_error _ (readToModify_read_error h hx)

theorem tasB_follows {m : Reg} {p : Place} (ht : s.TakesEvents) (h : s.check .write .b (s.r m) = .ok p) :
    Follows (s.check .read .b (s.r m)) s (exec (.tasB m) s) :=
  follows_of ht (fun _ hq => ⟨_, exec_tasB_of_check h hq⟩)
    fun _ hx => orStop_of_error _ (readToModify_read_error h hx)

theorem casL_follows {n m : Reg} {p : Place} (ht : s.TakesEvents) (h : s.check .write .l (s.r 0) = .ok p) :
    Follows (s.check .read .l (s.r 0)) s (exec (.casL n m) s) := by
  refine follows_of ht (fun q hq => ?_) fun _ hx => orStop_of_error _ (readToModify_read_error h hx)
  have hexec := exec_casL_of_check (n := n) (m := m) h hq
  split at hexec
  · exact ⟨_, hexec⟩
  · exact ⟨_, hexec⟩

/-- The first read changes nothing that the checks of the second look at. -/
theorem second_check {a : Loaded Word} {sz sz' : Size} {ea : Word} (ha : s.read sz ea = .ok a) (ea' : Word) :
    a.state.check .read sz' ea' = s.check .read sz' ea' := by
  obtain ⟨p, -, rfl⟩ := read_ok ha
  exact check_noteRead s sz p .read sz' ea'

theorem second_takesEvents {a : Loaded Word} {sz : Size} {ea : Word} (ht : s.TakesEvents) (ha : s.read sz ea = .ok a) :
    a.state.TakesEvents := by
  obtain ⟨p, -, rfl⟩ := read_ok ha
  exact takesEvents_noteRead ht sz p

theorem read_setR_error {u : State} {sz : Size} {ea : Word} {x : Stop} (n : Reg) (v : Word)
    (h : u.check .read sz ea = .error x) : (u.setR n v).read sz ea = .error x :=
  read_error ((check_setR u n v .read sz ea).trans h)

theorem macL_follows {n m : Reg} {a : Loaded Word} (ht : s.TakesEvents) (ha : s.read .l (s.r n) = .ok a) :
    Follows (s.check .read .l (if m = n then s.r n + 4 else s.r m)) a.state (exec (.macL n m) s) := by
  refine follows_of (second_takesEvents ht ha) (fun q hq => ?_) fun x hx => ?_
  · rw [← second_check ha] at hq
    exact ⟨_, exec_macL_of_reads ha (read_of_check hq)⟩
  · rw [← second_check ha] at hx
    rw [exec_macL, execMacL, ha, orStop_ok]
    dsimp only
    rw [second_address 4 ha]
    exact orStop_of_error _ (read_setR_error n (s.r n + 4) hx)

theorem macW_follows {n m : Reg} {a : Loaded Word} (ht : s.TakesEvents) (ha : s.read .w (s.r n) = .ok a) :
    Follows (s.check .read .w (if m = n then s.r n + 2 else s.r m)) a.state (exec (.macW n m) s) := by
  refine follows_of (second_takesEvents ht ha) (fun q hq => ?_) fun x hx => ?_
  · rw [← second_check ha] at hq
    exact ⟨_, exec_macW_of_reads ha (read_of_check hq)⟩
  · rw [← second_check ha] at hx
    rw [exec_macW, execMacW, ha, orStop_ok]
    dsimp only
    rw [second_address 2 ha]
    exact orStop_of_error _ (read_setR_error n (s.r n + 2) hx)

end Follows

theorem check_sh2 {s : State} {k : Access} {sz : Size} {ea : Word} (h : s.cfg.addrMode = .sh2)
    (ha : ea.toNat % sz.bytes = 0) : s.check k sz ea = .ok (.mem ea.toNat) := by
  rw [State.check, if_pos ha, State.locate, h]

/-- Settles O27: the first access by `exec_of_stops`, the later ones by the checks that have passed before them. -/
theorem dataAddressErrors : Obligations.DataAddressErrors := by
  intro s ht
  refine ⟨fun i d hadm hd h => ?_, fun k sz ea h2 ha => check_sh2 h2 ha, fun n m a hne h ha => ?_, fun n m a hne h ha => ?_,
    fun i d hadm h4 hmd hd h => ?_, fun i d x hadm hd hx => ?_, fun m p h => tasB_follows ht h, fun imm p h => ?_,
    fun n m p h => casL_follows ht h, fun n m a ha => macL_follows ht ha, fun n m a ha => macW_follows ht ha⟩
  · rw [exec_of_stops hadm hd (stops_of_misaligned h)]
    exact raise_of_takes ht
  · have hf := macL_follows (m := m) ht ha
    rw [if_neg hne, check_misaligned h] at hf
    exact hf
  · have hf := macW_follows (m := m) ht ha
    rw [if_neg hne, check_misaligned h] at hf
    exact hf
  · rw [exec_of_stops hadm hd (stops_of_user h4 hmd h)]
    exact raise_of_takes ht
  · rw [exec_of_stops hadm hd hx]
    exact stoppedBy_stopWith ht x
  · rw [exec_andBGbr, exec_xorBGbr, exec_orBGbr]
    exact ⟨modifyByte_follows ht h _, modifyByte_follows ht h _, modifyByte_follows ht h _⟩

/-! ### Regions (O28) -/

/-- The region of an effective address, its top three bits (R87). -/
def regionOf (ea : Word) : BitVec 3 := ea.extractLsb' 29 3

theorem regionOf_toNat (ea : Word) : (regionOf ea).toNat = ea.toNat / 2 ^ 29 := by
  have := ea.isLt
  rw [regionOf, BitVec.extractLsb'_toNat, Nat.shiftRight_eq_div_pow]
  omega

theorem regionOf_eq_iff (ea : Word) (r : BitVec 3) : regionOf ea = r ↔ ea.toNat / 2 ^ 29 = r.toNat := by
  rw [← regionOf_toNat, BitVec.toNat_eq]

theorem low29_toNat (ea : Word) : (ea.extractLsb' 0 29).toNat = ea.toNat % 2 ^ 29 := by
  rw [BitVec.extractLsb'_toNat, Nat.shiftRight_zero]

/-- Translation replaces the page and keeps the offset in it (R111). -/
theorem translated_eq_mmuAnswer (ea : Word) (k : Access) (a : Translation) : translated ea k a = mmuAnswer ea k a := by
  cases a with
  | frame f =>
    have hoffset : (ea.extractLsb' 0 12).toNat = ea.toNat % 4096 := by
      rw [BitVec.extractLsb'_toNat, Nat.shiftRight_zero]
    have hlt : (ea.extractLsb' 0 12).toNat < 2 ^ 12 := (ea.extractLsb' 0 12).isLt
    rw [translated, mmuAnswer, BitVec.toNat_append, ← Nat.shiftLeft_add_eq_or_of_lt hlt, Nat.shiftLeft_eq, hoffset]
  | miss => rfl
  | fault => rfl

section Locate

variable {s : State} {k : Access} {md : Bool} {ea : Word}

theorem locate_sh2 (h : s.cfg.addrMode = .sh2) : s.locate k md ea = .ok (.mem ea.toNat) := by
  rw [State.locate, h]

/-- The choice of a region, once user mode has been let through (R87 to R90). -/
theorem locate_sh4 (h : s.cfg.addrMode = .sh4) (hmode : (!md && (regionOf ea).msb) = false) :
    s.locate k md ea =
      if regionOf ea == 7 then specialPlace s.cfg.special ea
      else if regionOf ea == 4 || regionOf ea == 5 then .ok (.mem (ea.toNat % 2 ^ 29))
      else match s.cfg.mmu with
        | .absent => .ok (.mem (ea.toNat % 2 ^ 29))
        | .present => mmuAnswer ea k (Config.translate (ea.extractLsb' 12 20) k s.md) := by
  rw [State.locate, h]
  dsimp only
  rw [if_neg (by rw [regionOf] at hmode; rw [hmode]; exact Bool.false_ne_true), low29_toNat, translated_eq_mmuAnswer]
  rfl

theorem locate_region7 (h : s.cfg.addrMode = .sh4) (hea : regionOf ea = 7) :
    s.locate k true ea = specialPlace s.cfg.special ea := by
  rw [locate_sh4 h rfl, hea]
  rfl

theorem locate_identity (h : s.cfg.addrMode = .sh4) (hea : regionOf ea = 4 ∨ regionOf ea = 5) :
    s.locate k true ea = .ok (.mem (ea.toNat % 2 ^ 29)) := by
  rw [locate_sh4 h rfl]
  rcases hea with hea | hea <;> rw [hea] <;> rfl

theorem locate_absent (h : s.cfg.addrMode = .sh4) (hmmu : s.cfg.mmu = .absent)
    (hmode : (!md && (regionOf ea).msb) = false) (hea : regionOf ea ≠ 7) :
    s.locate k md ea = .ok (.mem (ea.toNat % 2 ^ 29)) := by
  rw [locate_sh4 h hmode, hmmu, if_neg (by simpa using hea), ite_self]

theorem locate_mapped (h : s.cfg.addrMode = .sh4) (hmmu : s.cfg.mmu = .present)
    (hmode : (!md && (regionOf ea).msb) = false) (hea : regionOf ea ≠ 7 ∧ regionOf ea ≠ 4 ∧ regionOf ea ≠ 5) :
    s.locate k md ea = mmuAnswer ea k (Config.translate (ea.extractLsb' 12 20) k s.md) := by
  obtain ⟨h7, h4, h5⟩ := hea
  rw [locate_sh4 h hmode, hmmu, if_neg (by simpa using h7), if_neg (by simpa using ⟨h4, h5⟩)]

end Locate

/-! The ranges of addresses that the regions are. -/

section Ranges

variable {ea : Word}

theorem regionOf_top (h : 0xE0000000 ≤ ea) : regionOf ea = 7 := by
  have hlow : 0xE0000000 ≤ ea.toNat := h
  have := ea.isLt
  rw [regionOf_eq_iff, show (7 : BitVec 3).toNat = 7 from rfl]
  omega

theorem regionOf_identity (hlow : 0x80000000 ≤ ea) (hhigh : ea < 0xC0000000) : regionOf ea = 4 ∨ regionOf ea = 5 := by
  have hlow' : 0x80000000 ≤ ea.toNat := hlow
  have hhigh' : ea.toNat < 0xC0000000 := hhigh
  rw [regionOf_eq_iff, regionOf_eq_iff, show (4 : BitVec 3).toNat = 4 from rfl, show (5 : BitVec 3).toNat = 5 from rfl]
  omega

theorem regionOf_six (hlow : 0xC0000000 ≤ ea) (hhigh : ea < 0xE0000000) : regionOf ea = 6 := by
  have hlow' : 0xC0000000 ≤ ea.toNat := hlow
  have hhigh' : ea.toNat < 0xE0000000 := hhigh
  rw [regionOf_eq_iff, show (6 : BitVec 3).toNat = 6 from rfl]
  omega

theorem regionOf_lower (h : ea < 0x80000000) : (regionOf ea).msb = false := by
  have hhigh : ea.toNat < 0x80000000 := h
  have hreg := regionOf_toNat ea
  rw [BitVec.msb_eq_decide, decide_eq_false_iff_not]
  omega

theorem mapped_of_msb (h : (regionOf ea).msb = false) : regionOf ea ≠ 7 ∧ regionOf ea ≠ 4 ∧ regionOf ea ≠ 5 := by
  revert h
  generalize regionOf ea = r
  revert r
  decide

theorem mapped_of_six (h : regionOf ea = 6) : regionOf ea ≠ 7 ∧ regionOf ea ≠ 4 ∧ regionOf ea ≠ 5 := by
  rw [h]
  decide

end Ranges

/-- One of the views of an address in region 0 (R90). -/
theorem locate_view {s : State} {k : Access} {ea c : Word} (h4 : s.cfg.addrMode = .sh4) (hmmu : s.cfg.mmu = .absent)
    (h : ea.toNat < 0x20000000) (hc : c.toNat % 2 ^ 29 = 0) (h7 : regionOf c ≠ 7) :
    s.locate k true (ea ||| c) = s.locate k true ea := by
  have hregion : regionOf ea = 0 := (regionOf_eq_iff ea 0).mpr (by simp; omega)
  have hview : regionOf (ea ||| c) = regionOf c := by
    have hor : regionOf (ea ||| c) = regionOf ea ||| regionOf c := BitVec.extractLsb'_or
    rw [hor, hregion]
    exact BitVec.zero_or
  have hlow : (ea ||| c).toNat % 2 ^ 29 = ea.toNat % 2 ^ 29 := by
    have hzero : c.extractLsb' 0 29 = 0 := BitVec.eq_of_toNat_eq ((low29_toNat c).trans hc)
    rw [← low29_toNat, ← low29_toNat, BitVec.extractLsb'_or, hzero]
    exact congrArg BitVec.toNat BitVec.or_zero
  rw [locate_absent h4 hmmu rfl (hview ▸ h7), locate_absent h4 hmmu rfl (by rw [hregion]; decide), hlow]

/-- Settles O28: the ranges of addresses are the regions, and each clause is the branch of its region. -/
theorem locations : Obligations.Locations := by
  intro s k ea
  refine ⟨fun h2 md => locate_sh2 h2, fun h4 => ⟨fun hlow hhigh => locate_identity h4 (regionOf_identity hlow hhigh),
    fun hsp hlow => ?_, fun hsp hlow => ?_, fun hmmu hhigh md => ?_, fun hmmu hlow hhigh => ?_, fun hmmu hhigh md => ?_,
    fun hmmu hlow hhigh => ?_, fun hmmu hhigh => ⟨?_, ?_, ?_⟩⟩⟩
  · rw [locate_region7 h4 (regionOf_top hlow), hsp]
    rfl
  · rw [locate_region7 h4 (regionOf_top hlow), hsp]
    rfl
  · have hmsb := regionOf_lower hhigh
    exact locate_absent h4 hmmu (by rw [hmsb, Bool.and_false]) (mapped_of_msb hmsb).1
  · exact locate_absent h4 hmmu rfl (mapped_of_six (regionOf_six hlow hhigh)).1
  · have hmsb := regionOf_lower hhigh
    exact locate_mapped h4 hmmu (by rw [hmsb, Bool.and_false]) (mapped_of_msb hmsb)
  · exact locate_mapped h4 hmmu rfl (mapped_of_six (regionOf_six hlow hhigh))
  · exact locate_view h4 hmmu hhigh rfl (by decide)
  · exact locate_view h4 hmmu hhigh rfl (by decide)
  · exact locate_view h4 hmmu hhigh rfl (by decide)

end Sys2Proof.Machine
end

section
/-! SUPPORT. What a step in user mode can learn of the supervisor's registers (O14): two runs that differ in those alone
stay so, unless the mode changes. -/

namespace Sys2Proof.Machine

/-- The values of the registers that user mode cannot see (R462). -/
structure SupervisorValues where
  vbr : Word
  ssr : Word
  spc : Word
  sgr : Word
  dbr : Word
  bankB : Vector Word 8

/-- The state with these values in the supervisor's registers. -/
def State.withSupervisor (s : State) (h : SupervisorValues) : State :=
  { s with vbr := h.vbr, ssr := h.ssr, spc := h.spc, sgr := h.sgr, dbr := h.dbr, bankB := h.bankB }

/-- If the first outcome is a state in user mode, the second is that state with the values `h`. -/
def SeesNot (h : SupervisorValues) (out out' : Out) : Prop :=
  ∀ t, out = .next t → t.md = false → out' = .next (t.withSupervisor h)

section UserMode

variable {h : SupervisorValues} {s : State}

/-! ### The registers of user mode -/

theorem withSupervisor_r (hmd : s.md = false) : (s.withSupervisor h).r = s.r := by
  have hs : s.onB = false := onB_of_user hmd
  have hu : (s.withSupervisor h).onB = false := onB_of_user (s := s.withSupervisor h) hmd
  funext i
  rw [State.r, State.r, hs, hu]
  rfl

theorem withSupervisor_setR (hmd : s.md = false) (n : Reg) (v : Word) :
    (s.withSupervisor h).setR n v = (s.setR n v).withSupervisor h := by
  have hs : s.onB = false := onB_of_user hmd
  have hu : (s.withSupervisor h).onB = false := onB_of_user (s := s.withSupervisor h) hmd
  simp only [State.setR, hs, hu, Bool.and_false, Bool.false_eq_true, if_false]
  rfl

theorem withSupervisor_noteRead (sz : Size) (p : Place) :
    (s.withSupervisor h).noteRead sz p = (s.noteRead sz p).withSupervisor h := by cases p <;> rfl

theorem withSupervisor_storeTo (sz : Size) (v : Word) (p : Place) :
    (s.withSupervisor h).storeTo sz v p = (s.storeTo sz v p).withSupervisor h := by cases p <;> rfl

theorem withSupervisor_advance : (s.withSupervisor h).advance = s.advance.withSupervisor h := by
  rw [State.advance_eq, State.advance_eq]
  rfl

/-! ### Outcomes -/

theorem seesNot_next {u u' : State} (hu : u' = u.withSupervisor h) : SeesNot h (.next u) (.next u') := by
  rintro t ht -
  cases ht
  rw [hu]

theorem seesNot_done {u u' : State} (hu : u' = u.withSupervisor h) : SeesNot h (done u) (done u') :=
  seesNot_next (by rw [hu, withSupervisor_advance])

theorem seesNot_raise (e : Event) (out' : Out) : SeesNot h (raise e s) out' := by
  intro t ht hmd
  obtain ⟨rfl, -⟩ := raise_next ht
  rw [State.md_trapEntry] at hmd
  cases hmd

theorem seesNot_refused (r : Refusal) (out' : Out) : SeesNot h (.refused r) out' := by
  intro t ht
  cases ht

theorem seesNot_stopWith (x : Stop) (out' : Out) : SeesNot h (stopWith s x) out' := by
  cases x with
  | event e => exact seesNot_raise e out'
  | refuse r => exact seesNot_refused r out'

/-- A check that stops has entered the trap or been refused. -/
theorem seesNot_orStop {α β : Type} {u : State} {x : Except Stop α} {x' : Except Stop β} {k : α → Out} {k' : β → Out}
    (hk : ∀ a, x = .ok a → ∃ b, x' = .ok b ∧ SeesNot h (k a) (k' b)) :
    SeesNot h (orStop s x k) (orStop u x' k') := by
  cases x with
  | error e => exact seesNot_stopWith e _
  | ok a =>
    obtain ⟨b, rfl, hb⟩ := hk a rfl
    exact hb

theorem seesNot_cond {c : Prop} [Decidable c] {k l k' l' : Out} (hk : SeesNot h k k') (hl : SeesNot h l l') :
    SeesNot h (if c then k else l) (if c then k' else l') := by
  split
  · exact hk
  · exact hl

theorem withSupervisor_ite {c : Prop} [Decidable c] {u v u' v' : State} (hu : u' = u.withSupervisor h)
    (hv : v' = v.withSupervisor h) : (if c then u' else v') = (if c then u else v).withSupervisor h := by
  split
  · exact hu
  · exact hv

/-! ### Guards -/

section Guards

variable {k k' : Out} {f : FReg}

theorem seesNot_fpu (hk : SeesNot h k k') : SeesNot h (fpu s k) (fpu (s.withSupervisor h) k') := by
  cases hfd : s.fd with
  | true =>
    rw [fpu_of_off _ hfd]
    exact seesNot_raise _ _
  | false => rwa [fpu_of_on _ hfd, fpu_of_on (s := s.withSupervisor h) _ hfd]

theorem seesNot_outsideSlot (hk : SeesNot h k k') :
    SeesNot h (outsideSlot s k) (outsideSlot (s.withSupervisor h) k') := by
  cases hslot : s.slot with
  | some x =>
    rw [outsideSlot_of_some _ hslot]
    exact seesNot_raise _ _
  | none => rwa [outsideSlot_of_none _ hslot, outsideSlot_of_none (s := s.withSupervisor h) _ hslot]

theorem seesNot_ite {c : Prop} [Decidable c] {r : Refusal} (hk : SeesNot h k k') :
    SeesNot h (if c then .refused r else k) (if c then .refused r else k') := by
  split
  · exact seesNot_refused r _
  · exact hk

theorem seesNot_evenField (hk : SeesNot h k k') :
    SeesNot h (evenField s f k) (evenField (s.withSupervisor h) f k') := seesNot_ite hk

theorem seesNot_singleOnly (hk : SeesNot h k k') :
    SeesNot h (singleOnly s k) (singleOnly (s.withSupervisor h) k') := seesNot_ite hk

theorem seesNot_doubleOnly (hk : SeesNot h k k') :
    SeesNot h (doubleOnly s f k) (doubleOnly (s.withSupervisor h) f k') := seesNot_ite (seesNot_ite hk)

theorem seesNot_rounding (hk : SeesNot h k k') :
    SeesNot h (rounding s k) (rounding (s.withSupervisor h) k') := seesNot_ite hk

end Guards

/-! ### One register, T -/

theorem seesNot_setR {n : Reg} {v v' : Word} (hmd : s.md = false) (hv : v' = v) :
    SeesNot h (done (s.setR n v)) (done ((s.withSupervisor h).setR n v')) :=
  seesNot_done (by rw [hv, withSupervisor_setR hmd])

theorem seesNot_setT {b b' : Bool} (hb : b' = b) : SeesNot h (done (s.setT b)) (done ((s.withSupervisor h).setT b')) :=
  seesNot_done (by rw [hb]; rfl)

theorem seesNot_setR_setT {n : Reg} {v v' : Word} {b b' : Bool} (hmd : s.md = false) (hv : v' = v) (hb : b' = b) :
    SeesNot h (done ((s.setR n v).setT b)) (done (((s.withSupervisor h).setR n v').setT b')) :=
  seesNot_done (by rw [hb, hv, withSupervisor_setR hmd]; rfl)

/-! ### Data accesses -/

section Access

variable {sz : Size} {ea ea' : Word} {e : Endian}

theorem withSupervisor_valueAt (p : Place) : (s.withSupervisor h).valueAt e sz p = s.valueAt e sz p := by
  cases p <;> rfl

theorem withSupervisor_readIn {a : Loaded Word} (ha : s.readIn e sz ea = .ok a) :
    (s.withSupervisor h).readIn e sz ea = .ok ⟨a.value, a.state.withSupervisor h⟩ := by
  obtain ⟨p, hp, rfl⟩ := readIn_ok ha
  have hp' : (s.withSupervisor h).check .read sz ea = .ok p := hp
  rw [State.readIn, hp']
  simp only [State.loadFrom, withSupervisor_valueAt, withSupervisor_noteRead]

theorem readIn_md {a : Loaded Word} (ha : s.readIn e sz ea = .ok a) : a.state.md = s.md := by
  obtain ⟨p, -, rfl⟩ := readIn_ok ha
  cases p <;> rfl

theorem seesNot_readIn {w w' : State} {k k' : Loaded Word → Out} (hmd : s.md = false) (hea : ea' = ea)
    (hk : ∀ v u, u.md = false → SeesNot h (k ⟨v, u⟩) (k' ⟨v, u.withSupervisor h⟩)) :
    SeesNot h (orStop w (s.readIn e sz ea) k) (orStop w' ((s.withSupervisor h).readIn e sz ea') k') := by
  subst hea
  exact seesNot_orStop fun a ha => ⟨_, withSupervisor_readIn ha, hk _ _ ((readIn_md ha).trans hmd)⟩

theorem seesNot_write {v v' : Word} {k k' : State → Out} (hmd : s.md = false) (hea : ea' = ea) (hv : v' = v)
    (hk : ∀ u, u.md = false → SeesNot h (k u) (k' (u.withSupervisor h))) :
    SeesNot h (orStop s (s.write sz ea v) k) (orStop (s.withSupervisor h) ((s.withSupervisor h).write sz ea' v') k') := by
  subst hea hv
  refine seesNot_orStop fun a ha => ?_
  obtain ⟨p, hp, rfl⟩ := write_ok ha
  have hp' : (s.withSupervisor h).check .write sz ea' = .ok p := hp
  refine ⟨_, write_of_check hp', ?_⟩
  rw [withSupervisor_storeTo]
  exact hk _ (by cases p <;> exact hmd)

theorem seesNot_readToModify {k k' : Loaded Word → Out} (hmd : s.md = false) (hea : ea' = ea)
    (hk : ∀ v u, u.md = false → SeesNot h (k ⟨v, u⟩) (k' ⟨v, u.withSupervisor h⟩)) :
    SeesNot h (orStop s (s.readToModify sz ea) k)
      (orStop (s.withSupervisor h) ((s.withSupervisor h).readToModify sz ea') k') := by
  subst hea
  refine seesNot_orStop fun a ha => ?_
  obtain ⟨⟨p, hp⟩, hr⟩ := readToModify_ok ha
  have hp' : (s.withSupervisor h).check .write sz ea' = .ok p := hp
  refine ⟨⟨a.value, a.state.withSupervisor h⟩, ?_, hk _ _ ((readIn_md hr).trans hmd)⟩
  rw [State.readToModify, hp']
  exact withSupervisor_readIn hr

theorem withSupervisor_eaIndexed (hmd : s.md = false) (n : Reg) : (s.withSupervisor h).eaIndexed n = s.eaIndexed n := by
  rw [State.eaIndexed, withSupervisor_r hmd, State.eaIndexed]

theorem withSupervisor_eaDisp (hmd : s.md = false) (n : Reg) (d : Nibble) (c : Word) :
    (s.withSupervisor h).eaDisp n d c = s.eaDisp n d c := by
  rw [State.eaDisp, withSupervisor_r hmd, State.eaDisp]

theorem withSupervisor_eaGbrIndexed (hmd : s.md = false) : (s.withSupervisor h).eaGbrIndexed = s.eaGbrIndexed := by
  rw [State.eaGbrIndexed, withSupervisor_r hmd, State.eaGbrIndexed]
  rfl

theorem seesNot_loadReg {ext : Word → Word} {n : Reg} (hmd : s.md = false) (hea : ea' = ea) :
    SeesNot h (loadReg s sz ext ea n) (loadReg (s.withSupervisor h) sz ext ea' n) :=
  seesNot_readIn hmd hea fun _ _ hu => seesNot_setR hu rfl

theorem seesNot_loadInc {ext : Word → Word} {n m : Reg} (hmd : s.md = false) :
    SeesNot h (loadInc s sz ext m n) (loadInc (s.withSupervisor h) sz ext m n) := by
  have hr : (s.withSupervisor h).r = s.r := withSupervisor_r hmd
  refine seesNot_readIn hmd (hr ▸ rfl) fun v u hu => seesNot_done ?_
  dsimp only
  rw [hr, withSupervisor_setR hu, withSupervisor_setR (s := u.setR m _) hu]

theorem seesNot_storeVal {v v' : Word} (hmd : s.md = false) (hea : ea' = ea) (hv : v' = v) :
    SeesNot h (storeVal s sz ea v) (storeVal (s.withSupervisor h) sz ea' v') :=
  seesNot_write hmd hea hv fun _ _ => seesNot_done rfl

theorem seesNot_pushVal {n : Reg} {v v' : Word} (hmd : s.md = false) (hv : v' = v) :
    SeesNot h (pushVal s sz n v) (pushVal (s.withSupervisor h) sz n v') := by
  have hr : (s.withSupervisor h).r = s.r := withSupervisor_r hmd
  exact seesNot_write hmd (hr ▸ rfl) hv fun _ hu => seesNot_setR hu (hr ▸ rfl)

theorem seesNot_popLong {m : Reg} {put : State → Word → State} (hmd : s.md = false)
    (hput : ∀ u v, put (u.withSupervisor h) v = (put u v).withSupervisor h) :
    SeesNot h (popLong s m put) (popLong (s.withSupervisor h) m put) := by
  have hr : (s.withSupervisor h).r = s.r := withSupervisor_r hmd
  refine seesNot_readIn hmd (hr ▸ rfl) fun v u hu => seesNot_done ?_
  dsimp only
  rw [hr, withSupervisor_setR hu, hput]

theorem seesNot_modifyByte {f : Byte → Byte} (hmd : s.md = false) (hea : ea' = ea) :
    SeesNot h (modifyByte s ea f) (modifyByte (s.withSupervisor h) ea' f) :=
  seesNot_readToModify hmd hea fun _ _ hu => seesNot_write hu hea rfl fun _ _ => seesNot_done rfl

theorem seesNot_fmovLoad {n : FReg} {after after' : State → State} (hmd : s.md = false) (hea : ea' = ea)
    (hafter : ∀ u, u.md = false → after' (u.withSupervisor h) = (after u).withSupervisor h) :
    SeesNot h (fmovLoad s ea n after) (fmovLoad (s.withSupervisor h) ea' n after') := by
  subst hea
  unfold fmovLoad
  refine seesNot_cond ?_ (seesNot_readIn hmd rfl fun v u hu => seesNot_done (hafter (u.setFr n v) hu))
  refine seesNot_orStop fun a ha => ?_
  obtain ⟨hi, lo, hp, hvalue, hstate⟩ := readPair_ok ha
  have hp' : (s.withSupervisor h).checkPair .read ea' = .ok (hi, lo) := hp
  refine ⟨⟨a.value, a.state.withSupervisor h⟩, ?_, seesNot_done (hafter (a.state.setPair n a.value) ?_)⟩
  · rw [State.readPair, hp', hvalue, hstate]
    simp only [State.loadPairFrom, State.loadFrom, withSupervisor_valueAt, withSupervisor_noteRead]
    rfl
  · rw [hstate]
    cases hi <;> cases lo <;> exact hmd

theorem seesNot_fmovStore {m : FReg} {after after' : State → State} (hmd : s.md = false) (hea : ea' = ea)
    (hafter : ∀ u, u.md = false → after' (u.withSupervisor h) = (after u).withSupervisor h) :
    SeesNot h (fmovStore s ea m after) (fmovStore (s.withSupervisor h) ea' m after') := by
  subst hea
  unfold fmovStore
  refine seesNot_cond ?_ (seesNot_write hmd rfl rfl fun u hu => seesNot_done (hafter _ hu))
  refine seesNot_orStop fun a ha => ?_
  obtain ⟨hi, lo, hp, rfl⟩ := writePair_ok ha
  have hp' : (s.withSupervisor h).checkPair .write ea' = .ok (hi, lo) := hp
  refine ⟨_, by rw [State.writePair, hp'], seesNot_done ?_⟩
  rw [← hafter _ (by cases hi <;> cases lo <;> exact hmd)]
  cases hi <;> cases lo <;> rfl

end Access

theorem withSupervisor_fpArith (o1 o2 : FpOp) (g : FpFormat → FpVal → FpVal → FpVal) (n m : FReg) :
    fpArith (s.withSupervisor h) o1 o2 g n m = (fpArith s o1 o2 g n m).withSupervisor h := withSupervisor_ite rfl rfl

theorem seesNot_of_eq {i : Instr} {k : State → Out} (he : ∀ u, exec i u = k u)
    (hk : SeesNot h (k s) (k (s.withSupervisor h))) : SeesNot h (exec i s) (exec i (s.withSupervisor h)) := by
  rwa [he, he]

theorem setT_md (u : State) (b : Bool) : (u.setT b).md = u.md := getLsbD_setBit_ne (by decide) (by decide)

theorem seesNot_casL {n m : Reg} (hmd : s.md = false) :
    SeesNot h (execCasL n m s) (execCasL n m (s.withSupervisor h)) := by
  have hr : (s.withSupervisor h).r = s.r := withSupervisor_r hmd
  refine seesNot_readToModify hmd (hr ▸ rfl) fun v u hu => ?_
  dsimp only
  rw [hr]
  refine seesNot_cond (seesNot_write hu rfl rfl fun w hw => seesNot_done ?_) (seesNot_done ?_)
  · exact withSupervisor_setR (s := w.setT true) (by rw [setT_md]; exact hw) n v
  · exact withSupervisor_setR (s := u.setT false) (by rw [setT_md]; exact hu) n v

/-- The two reads of a multiply-accumulate, as `answers_twoReads` says of one run. -/
theorem seesNot_twoReads {sz : Size} {n m : Reg} {c : Word} {f : Word → Word → State → State} (hmd : s.md = false)
    (hf : ∀ a b u, f a b (u.withSupervisor h) = (f a b u).withSupervisor h) :
    SeesNot h
      (orStop s (s.read sz (s.r n)) fun a =>
        let s1 := a.state.setR n (s.r n + c)
        orStop a.state (s1.read sz (s1.r m)) fun b => done (f a.value b.value (b.state.setR m (s1.r m + c))))
      (orStop (s.withSupervisor h) ((s.withSupervisor h).read sz ((s.withSupervisor h).r n)) fun a =>
        let s1 := a.state.setR n ((s.withSupervisor h).r n + c)
        orStop a.state (s1.read sz (s1.r m)) fun b => done (f a.value b.value (b.state.setR m (s1.r m + c)))) := by
  have hr : (s.withSupervisor h).r = s.r := withSupervisor_r hmd
  refine seesNot_readIn hmd (hr ▸ rfl) fun v u hu => ?_
  dsimp only
  rw [hr, withSupervisor_setR hu]
  have hu1 : (u.setR n (s.r n + c)).md = false := hu
  rw [withSupervisor_r hu1]
  refine seesNot_readIn hu1 rfl fun b w hw => seesNot_done ?_
  rw [withSupervisor_setR hw, hf]

/-! ### Instruction by instruction -/

theorem seesNot_of_isFpu {i : Instr} (hi : isFpu i = true) (hmd : s.md = false) :
    SeesNot h (exec i s) (exec i (s.withSupervisor h)) := by
  have hr : (s.withSupervisor h).r = s.r := withSupervisor_r hmd
  cases i
  case stsFpul | stsFpscr => exact seesNot_fpu (seesNot_setR hmd rfl)
  case stslFpul | stslFpscr => exact seesNot_fpu (seesNot_pushVal hmd rfl)
  case ldsFpul | ldsFpscr => exact seesNot_fpu (seesNot_done (hr ▸ rfl))
  case flds | fschg | fsts | fneg | fabs => exact seesNot_fpu (seesNot_done rfl)
  case ldslFpul | ldslFpscr => exact seesNot_fpu (seesNot_popLong hmd fun _ _ => rfl)
  case fldi0 | fldi1 => exact seesNot_fpu (seesNot_singleOnly (seesNot_done rfl))
  case fmac => exact seesNot_fpu (seesNot_singleOnly (seesNot_rounding (seesNot_done rfl)))
  case fadd | fsub | fmul | fdiv =>
    exact seesNot_fpu (seesNot_evenField (seesNot_evenField (seesNot_rounding (seesNot_done (withSupervisor_fpArith _ _ _ _ _)))))
  case fcmpeq | fcmpgt => exact seesNot_fpu (seesNot_evenField (seesNot_evenField (seesNot_setT rfl)))
  case ftrc => exact seesNot_fpu (seesNot_evenField (seesNot_done rfl))
  case fcnvsd => exact seesNot_fpu (seesNot_doubleOnly (seesNot_done rfl))
  case fcnvds => exact seesNot_fpu (seesNot_doubleOnly (seesNot_rounding (seesNot_done rfl)))
  case float =>
    exact seesNot_fpu (seesNot_evenField (seesNot_cond (seesNot_done rfl) (seesNot_rounding (seesNot_done rfl))))
  case fsqrt => exact seesNot_fpu (seesNot_evenField (seesNot_rounding (seesNot_done (withSupervisor_ite rfl rfl))))
  case fmovR => exact seesNot_fpu (seesNot_done (withSupervisor_ite rfl rfl))
  case fmovLoad => exact seesNot_fpu (seesNot_fmovLoad hmd (hr ▸ rfl) fun _ _ => rfl)
  case fmovStore => exact seesNot_fpu (seesNot_fmovStore hmd (hr ▸ rfl) fun _ _ => rfl)
  case fmovLoadIdx => exact seesNot_fpu (seesNot_fmovLoad hmd (withSupervisor_eaIndexed hmd _) fun _ _ => rfl)
  case fmovStoreIdx => exact seesNot_fpu (seesNot_fmovStore hmd (withSupervisor_eaIndexed hmd _) fun _ _ => rfl)
  case fmovLoadInc n m =>
    exact seesNot_fpu (seesNot_fmovLoad hmd (hr ▸ rfl) fun _ hu => (withSupervisor_setR hu m _).trans (hr ▸ rfl))
  case fmovPush n m =>
    exact seesNot_fpu (seesNot_fmovStore hmd (hr ▸ rfl) fun _ hu => (withSupervisor_setR hu n _).trans (hr ▸ rfl))
  all_goals cases hi

theorem seesNot_of_bannedInSlot {i : Instr} (hi : (bannedInSlot i && !isPrivileged i) = true) (hmd : s.md = false) :
    SeesNot h (exec i s) (exec i (s.withSupervisor h)) := by
  have hr : (s.withSupervisor h).r = s.r := withSupervisor_r hmd
  cases i
  case bra | bsr | rts | bts | bfs | bt | bf => exact seesNot_outsideSlot (seesNot_next rfl)
  case bsaf | bsrf | jmp | jsr => exact seesNot_outsideSlot (seesNot_next (hr ▸ rfl))
  case movi24 => exact seesNot_outsideSlot (seesNot_next (withSupervisor_setR hmd 0 _ ▸ rfl))
  case trapa | brk => exact seesNot_outsideSlot (seesNot_raise _ _)
  case mova => exact seesNot_outsideSlot (seesNot_setR hmd rfl)
  case movWLoadPc | movLLoadPc =>
    exact seesNot_outsideSlot (seesNot_readIn hmd rfl fun _ _ hu => seesNot_setR hu rfl)
  all_goals cases hi

theorem seesNot_of_dataAccess {i : Instr}
    (hi : (isPrivileged i || isFpu i || bannedInSlot i || !(dataAccess i s).isSome) = false) (hmd : s.md = false) :
    SeesNot h (exec i s) (exec i (s.withSupervisor h)) := by
  have hr : (s.withSupervisor h).r = s.r := withSupervisor_r hmd
  cases i
  case movBLoadIdx | movWLoadIdx | movLLoadIdx => exact seesNot_loadReg hmd (withSupervisor_eaIndexed hmd _)
  case movBLoadDisp | movWLoadDisp | movLLoadDisp => exact seesNot_loadReg hmd (withSupervisor_eaDisp hmd _ _ _)
  case movBLoadGbr | movWLoadGbr | movLLoadGbr => exact seesNot_loadReg hmd rfl
  case movBLoad | movWLoad | movLLoad => exact seesNot_loadReg hmd (hr ▸ rfl)
  case movBLoadInc | movWLoadInc | movLLoadInc => exact seesNot_loadInc hmd
  case movBStoreIdx | movWStoreIdx | movLStoreIdx =>
    exact seesNot_storeVal hmd (withSupervisor_eaIndexed hmd _) (hr ▸ rfl)
  case movBStoreDisp | movWStoreDisp | movLStoreDisp =>
    exact seesNot_storeVal hmd (withSupervisor_eaDisp hmd _ _ _) (hr ▸ rfl)
  case movBStoreGbr | movWStoreGbr | movLStoreGbr => exact seesNot_storeVal hmd rfl (hr ▸ rfl)
  case movcaL | movBStore | movWStore | movLStore => exact seesNot_storeVal hmd (hr ▸ rfl) (hr ▸ rfl)
  case movBPush | movWPush | movLPush => exact seesNot_pushVal hmd (hr ▸ rfl)
  case stslMach | stslMacl | stslPr | stclGbr => exact seesNot_pushVal hmd rfl
  case ldslMach m => exact seesNot_of_eq (fun u => exec_ldslMach u m) (seesNot_popLong hmd fun _ _ => rfl)
  case ldslMacl m => exact seesNot_of_eq (fun u => exec_ldslMacl u m) (seesNot_popLong hmd fun _ _ => rfl)
  case ldslPr m => exact seesNot_of_eq (fun u => exec_ldslPr u m) (seesNot_popLong hmd fun _ _ => rfl)
  case ldclGbr m => exact seesNot_of_eq (fun u => exec_ldclGbr u m) (seesNot_popLong hmd fun _ _ => rfl)
  case tstBGbr imm =>
    exact seesNot_of_eq (fun u => exec_tstBGbr u imm)
      (seesNot_readIn hmd (withSupervisor_eaGbrIndexed hmd) fun _ _ _ => seesNot_setT rfl)
  case andBGbr imm =>
    exact seesNot_of_eq (fun u => exec_andBGbr u imm) (seesNot_modifyByte hmd (withSupervisor_eaGbrIndexed hmd))
  case xorBGbr imm =>
    exact seesNot_of_eq (fun u => exec_xorBGbr u imm) (seesNot_modifyByte hmd (withSupervisor_eaGbrIndexed hmd))
  case orBGbr imm =>
    exact seesNot_of_eq (fun u => exec_orBGbr u imm) (seesNot_modifyByte hmd (withSupervisor_eaGbrIndexed hmd))
  case tasB m =>
    exact seesNot_of_eq (fun u => exec_tasB u m) (seesNot_readToModify hmd (hr ▸ rfl) fun _ _ hu =>
      seesNot_write hu (hr ▸ rfl) rfl fun _ _ => seesNot_setT rfl)
  case casL n m => exact seesNot_of_eq (fun u => exec_casL u n m) (seesNot_casL hmd)
  case macL n m =>
    exact seesNot_of_eq (fun u => exec_macL u n m)
      (seesNot_twoReads (f := fun a b u => u.setMac (macLongResult s.satS s.mac a b)) hmd fun _ _ _ => rfl)
  case macW n m =>
    exact seesNot_of_eq (fun u => exec_macW u n m)
      (seesNot_twoReads (f := fun a b u => u.macWord (a.setWidth 16) (b.setWidth 16)) hmd fun _ _ _ => rfl)
  all_goals cases hi

theorem seesNot_of_registers {i : Instr} (hwf : i.wf = true)
    (hi : (isReserved i || isPrivileged i || isFpu i || bannedInSlot i || (dataAccess i s).isSome) = false)
    (hmd : s.md = false) : SeesNot h (exec i s) (exec i (s.withSupervisor h)) := by
  have hr : (s.withSupervisor h).r = s.r := withSupervisor_r hmd
  cases i
  case nop | pref => exact seesNot_done rfl
  case xpfx0 => exact seesNot_refused _ _
  case stcGbr | movt | stsMach | stsMacl | stsPr | movI => exact seesNot_setR hmd rfl
  case andR | xorR | orR | xtrct | subR | addR | shll2 | shll8 | shll16 | shlr2 | shlr8 | shlr16 | shad | shld | movR | notR
      | swapB | swapW | neg | extuB | extuW | extsB | extsW | addI | ldsh8 | andI | xorI | orI =>
    exact seesNot_setR hmd (hr ▸ rfl)
  case mulL | muluW | mulsW | dmuluL | dmulsL | ldsMach | ldsMacl | ldsPr | ldcGbr => exact seesNot_done (hr ▸ rfl)
  case clrmac | clrs | sets | div0u => exact seesNot_done rfl
  case tstR | cmpeqR | cmpeqI | tstI | cmpstr | cmphs | cmpge | cmphi | cmpgt | cmppz | cmppl =>
    exact seesNot_setT (hr ▸ rfl)
  case clrt | sett => exact seesNot_setT rfl
  case subc | subv | addc | addv | negc | shll | shal | shlr | shar | rotl | rotr | rotcl | rotcr | dt =>
    exact seesNot_setR_setT hmd (hr ▸ rfl) (hr ▸ rfl)
  case div0s => exact seesNot_done (hr ▸ rfl)
  case div1 n m =>
    refine seesNot_of_eq (fun u => exec_div1 u n m) (seesNot_done ?_)
    rw [hr, withSupervisor_setR hmd]
    rfl
  case cmpbeq | cmpbne | cmpbge | cmpblt | cmpbgt | cmpble | shadImm | shldImm => cases hwf
  all_goals cases hi

theorem seesNot_exec {i : Instr} (hwf : i.wf = true) (hmd : s.md = false) :
    SeesNot h (exec i s) (exec i (s.withSupervisor h)) := by
  cases hres : isReserved i
  case true =>
    rw [exec_of_isReserved hres]
    exact seesNot_raise _ _
  cases hpriv : isPrivileged i
  case true =>
    rw [exec_of_privileged_user hpriv hmd]
    exact seesNot_raise _ _
  cases hfpu : isFpu i
  case true => exact seesNot_of_isFpu hfpu hmd
  cases hban : bannedInSlot i
  case true => exact seesNot_of_bannedInSlot (by rw [hban, hpriv]; rfl) hmd
  cases hd : (dataAccess i s).isSome
  case true => exact seesNot_of_dataAccess (by rw [hpriv, hfpu, hban, hd]; rfl) hmd
  case false => exact seesNot_of_registers hwf (by rw [hres, hpriv, hfpu, hban, hd]; rfl) hmd

/-! ### The step -/

theorem seesNot_runDecoded {w1 w2 : Half} (hmd : s.md = false) :
    SeesNot h (runDecoded (decode w1 w2) s) (runDecoded (decode w1 w2) (s.withSupervisor h)) := by
  cases hd : decode w1 w2 with
  | error e => exact seesNot_raise _ _
  | ok i => exact seesNot_exec ((decode_faithful w1 w2).of_eq hd).1 hmd

theorem withSupervisor_fetch {md : Bool} {a : Word} {w : Loaded Half} (hw : s.fetch md a = .ok w) :
    (s.withSupervisor h).fetch md a = .ok ⟨w.value, w.state.withSupervisor h⟩ := by
  obtain ⟨ha, p, hp, hst, rfl⟩ := fetch_ok hw
  have hstored : s.cfg.ifetch = .coherent ∨ (p.loc ∉ s.stored ∧ p.loc + 1 ∉ s.stored) := by
    cases hcfg : s.cfg.ifetch with
    | coherent => exact .inl rfl
    | refuse => exact .inr (hst hcfg)
  have hfetch := fetch_of_locate (s := s.withSupervisor h) ha hp hstored
  rw [hfetch]
  cases p <;> rfl

theorem seesNot_fetch {w w' : State} {md : Bool} {a : Word} {k k' : Loaded Half → Out} (hmd : s.md = false)
    (hk : ∀ v u, u.md = false → SeesNot h (k ⟨v, u⟩) (k' ⟨v, u.withSupervisor h⟩)) :
    SeesNot h (orStop w (s.fetch md a) k) (orStop w' ((s.withSupervisor h).fetch md a) k') := by
  refine seesNot_orStop fun x hx => ⟨_, withSupervisor_fetch hx, hk _ _ ?_⟩
  exact (congrArg (BitVec.getLsbD · 30) ((FetchedIn.refl s).fetch hx).sr_eq).trans hmd

theorem seesNot_runInstruction (hmd : s.md = false) :
    SeesNot h (runInstruction s) (runInstruction (s.withSupervisor h)) := by
  refine seesNot_fetch hmd fun v u hu => ?_
  dsimp only
  exact seesNot_cond (seesNot_fetch hu fun _ _ hw => seesNot_runDecoded hw) (seesNot_runDecoded hu)

theorem seesNot_runAsleep : SeesNot h (runAsleep s) (runAsleep (s.withSupervisor h)) := by
  intro t ht _
  by_cases hnil : s.irqs = []
  · rw [runAsleep, hnil] at ht
    cases ht
  · rw [runAsleep_of_ne_nil hnil] at ht
    cases ht
    exact runAsleep_of_ne_nil (s := s.withSupervisor h) hnil

theorem seesNot_step (hmd : s.md = false) : SeesNot h (step s) (step (s.withSupervisor h)) := by
  cases ha : s.accepted with
  | some level =>
    intro t ht hmdt
    rw [step, ha] at ht
    cases ht
    rw [State.md_trapEntry] at hmdt
    cases hmdt
  | none =>
    have ha' : (s.withSupervisor h).accepted = none := ha
    rw [step, step, ha, ha']
    refine seesNot_cond ?_ (seesNot_runInstruction hmd)
    exact seesNot_runAsleep

end UserMode

/-- Settles O14. -/
theorem userModeCannotRead : Obligations.UserModeCannotRead := by
  intro s t vbr ssr spc sgr dbr bankB hmd hstep hmdt
  exact seesNot_step (h := ⟨vbr, ssr, spc, sgr, dbr, bankB⟩) hmd t hstep hmdt

end Sys2Proof.Machine
end

section
/-! SUPPORT. The FPU's numbers: the patterns of a format in order, rounding by the cut of a mantissa, and the statement
that this is IEEE 754's rounding (O59). -/

namespace Sys2Proof.Machine

/-! ### The magnitudes of patterns -/

section Magnitude

variable {f : FpFormat}

/-- The pattern of mantissa `k` with the exponent of its last bit `d` above the least. -/
theorem magnitude_pattern {q : Int} {k : Nat} (hq : f.minExp ≤ q) (hk : k ≤ 2 ^ (f.fracBits + 1))
    (hnormal : q = f.minExp ∨ 2 ^ f.fracBits ≤ k) :
    f.magnitude ((q - f.minExp).toNat * 2 ^ f.fracBits + k) = (k : ℝ) * (2 : ℝ) ^ q := by
  obtain ⟨d, rfl⟩ : ∃ d : Nat, q = f.minExp + d := ⟨(q - f.minExp).toNat, by omega⟩
  have hd : (f.minExp + (d : Int) - f.minExp).toNat = d := by omega
  have hpos : 0 < 2 ^ f.fracBits := Nat.two_pow_pos _
  rw [hd, FpFormat.magnitude]
  by_cases hsmall : k < 2 ^ f.fracBits
  · obtain rfl : d = 0 := by omega
    rw [if_pos (by simpa using hsmall)]
    simp
  · have hge : ¬ d * 2 ^ f.fracBits + k < 2 ^ f.fracBits := by
      have := Nat.zero_le (d * 2 ^ f.fracBits)
      omega
    rw [if_neg hge]
    rcases hk.lt_or_eq with hlt | rfl
    · obtain ⟨j, rfl⟩ : ∃ j, k = 2 ^ f.fracBits + j := ⟨k - 2 ^ f.fracBits, by omega⟩
      have hj : j < 2 ^ f.fracBits := by rw [pow_succ] at hlt; omega
      have hdiv : (d * 2 ^ f.fracBits + (2 ^ f.fracBits + j)) / 2 ^ f.fracBits = d + 1 := by
        rw [show d * 2 ^ f.fracBits + (2 ^ f.fracBits + j) = j + 2 ^ f.fracBits * (d + 1) by ring,
          Nat.add_mul_div_left _ _ hpos, Nat.div_eq_of_lt hj, Nat.zero_add]
      have hmod : (d * 2 ^ f.fracBits + (2 ^ f.fracBits + j)) % 2 ^ f.fracBits = j := by
        rw [show d * 2 ^ f.fracBits + (2 ^ f.fracBits + j) = j + 2 ^ f.fracBits * (d + 1) by ring,
          Nat.add_mul_mod_self_left, Nat.mod_eq_of_lt hj]
      rw [hdiv, hmod]
      congr 2
      push_cast
      ring
    · have hdiv : (d * 2 ^ f.fracBits + 2 ^ (f.fracBits + 1)) / 2 ^ f.fracBits = d + 2 := by
        rw [show d * 2 ^ f.fracBits + 2 ^ (f.fracBits + 1) = 2 ^ f.fracBits * (d + 2) by ring, Nat.mul_div_cancel_left _ hpos]
      have hmod : (d * 2 ^ f.fracBits + 2 ^ (f.fracBits + 1)) % 2 ^ f.fracBits = 0 := by
        rw [show d * 2 ^ f.fracBits + 2 ^ (f.fracBits + 1) = 2 ^ f.fracBits * (d + 2) by ring, Nat.mul_mod_right]
      rw [hdiv, hmod, show f.minExp + ((d + 2 : Nat) : Int) - 1 = (f.minExp + d) + 1 by push_cast; ring,
        zpow_add_one₀ two_ne_zero]
      push_cast
      ring

/-- Every pattern is that of a mantissa and an exponent. -/
theorem exists_pattern (f : FpFormat) (k : Nat) :
    ∃ (q : Int) (j : Nat), f.minExp ≤ q ∧ j < 2 ^ (f.fracBits + 1) ∧ (q = f.minExp ∨ 2 ^ f.fracBits ≤ j)
      ∧ k = (q - f.minExp).toNat * 2 ^ f.fracBits + j := by
  have hpos : 0 < 2 ^ f.fracBits := Nat.two_pow_pos _
  have hdouble : 2 ^ (f.fracBits + 1) = 2 ^ f.fracBits + 2 ^ f.fracBits := by rw [pow_succ]; ring
  by_cases hsmall : k < 2 ^ f.fracBits
  · exact ⟨f.minExp, k, le_rfl, by omega, .inl rfl, by simp⟩
  · have hmod := Nat.mod_lt k hpos
    have hdiv : 1 ≤ k / 2 ^ f.fracBits := (Nat.one_le_div_iff hpos).mpr (by omega)
    obtain ⟨d, hd⟩ : ∃ d, k / 2 ^ f.fracBits = d + 1 := ⟨k / 2 ^ f.fracBits - 1, by omega⟩
    refine ⟨f.minExp + d, 2 ^ f.fracBits + k % 2 ^ f.fracBits, by omega, by omega, .inr (by omega), ?_⟩
    have hsplit := Nat.div_add_mod k (2 ^ f.fracBits)
    rw [hd] at hsplit
    rw [show (f.minExp + (d : Int) - f.minExp).toNat = d by omega]
    linarith

theorem magnitude_strictMono (f : FpFormat) : StrictMono f.magnitude := by
  refine strictMono_nat_of_lt_succ fun k => ?_
  obtain ⟨q, j, hq, hj, hnormal, rfl⟩ := exists_pattern f k
  rw [Nat.add_assoc, magnitude_pattern hq (by omega) hnormal, magnitude_pattern hq (by omega) (by omega)]
  have : (0 : ℝ) < 2 ^ q := by positivity
  push_cast
  nlinarith

end Magnitude

/-! ### The pattern nearest to a real, and the one below it -/

section Choice

variable {f : FpFormat} {x : ℝ} {k : Nat}

theorem nearest_of_between (hlow : f.magnitude k ≤ x) (hhigh : x < f.magnitude (k + 1)) (hk : k + 1 ≤ f.infinity)
    {up : Bool} (hup : up = true ↔ (f.magnitude k + f.magnitude (k + 1)) / 2 < x
      ∨ ((f.magnitude k + f.magnitude (k + 1)) / 2 = x ∧ k % 2 = 1)) :
    f.Nearest x (if up then k + 1 else k) := by
  have hmono := magnitude_strictMono f
  have hbelow (j : Nat) (hj : j < k) : |x - f.magnitude k| < |x - f.magnitude j| := by
    have := hmono hj
    rw [abs_of_nonneg (by linarith), abs_of_nonneg (by linarith)]
    linarith
  have habove (j : Nat) (hj : k + 1 < j) : |x - f.magnitude (k + 1)| < |x - f.magnitude j| := by
    have := hmono hj
    rw [abs_of_nonpos (by linarith), abs_of_nonpos (by linarith)]
    linarith
  have hleft : |x - f.magnitude k| = x - f.magnitude k := abs_of_nonneg (by linarith)
  have hright : |x - f.magnitude (k + 1)| = f.magnitude (k + 1) - x := by
    rw [abs_of_nonpos (by linarith)]
    ring
  cases up with
  | true =>
    refine ⟨hk, fun j _ hj => ?_⟩
    have hmid := hup.mp rfl
    simp only [if_true] at hj ⊢
    have hle : |x - f.magnitude (k + 1)| < |x - f.magnitude k|
        ∨ (|x - f.magnitude (k + 1)| = |x - f.magnitude k| ∧ (k + 1) % 2 = 0) := by
      rw [hleft, hright]
      rcases hmid with hmid | ⟨hmid, hodd⟩
      · exact .inl (by linarith)
      · exact .inr ⟨by linarith, by omega⟩
    rcases Nat.lt_trichotomy j k with hjk | rfl | hjk
    · have := hbelow j hjk
      rcases hle with hle | ⟨hle, -⟩
      · exact .inl (hle.trans this)
      · exact .inl (hle ▸ this)
    · exact hle
    · exact .inl (habove j (by omega))
  | false =>
    refine ⟨by simp only [Bool.false_eq_true, if_false]; omega, fun j _ hj => ?_⟩
    have hmid : ¬ _ := fun h => Bool.false_ne_true (hup.mpr h)
    rw [not_or, not_and, not_lt] at hmid
    obtain ⟨hmid, hodd⟩ := hmid
    simp only [Bool.false_eq_true, if_false] at hj ⊢
    have hle : |x - f.magnitude k| < |x - f.magnitude (k + 1)|
        ∨ (|x - f.magnitude k| = |x - f.magnitude (k + 1)| ∧ k % 2 = 0) := by
      rw [hleft, hright]
      rcases hmid.lt_or_eq with hlt | heq
      · exact .inl (by linarith)
      · exact .inr ⟨by linarith, by have := hodd heq.symm; omega⟩
    rcases Nat.lt_trichotomy j (k + 1) with hjk | rfl | hjk
    · exact .inl (hbelow j (by omega))
    · exact hle
    · have := habove j hjk
      rcases hle with hle | ⟨hle, -⟩
      · exact .inl (hle.trans this)
      · exact .inl (hle ▸ this)

theorem nearest_infinity (h : f.magnitude f.infinity ≤ x) : f.Nearest x f.infinity := by
  refine ⟨le_rfl, fun j hj hne => .inl ?_⟩
  have := magnitude_strictMono f (lt_of_le_of_ne hj hne)
  rw [abs_of_nonneg (by linarith), abs_of_nonneg (by linarith)]
  linarith

theorem towardZero_of_between (hlow : f.magnitude k ≤ x) (hhigh : x < f.magnitude (k + 1)) (hk : k < f.infinity) :
    f.TowardZero x k :=
  ⟨hk, hlow, fun _ _ hj => Nat.lt_succ_iff.mp ((magnitude_strictMono f).lt_iff_lt.mp (hj.trans_lt hhigh))⟩

theorem towardZero_infinity (h : f.magnitude f.infinity ≤ x) (hpos : 0 < f.infinity) :
    f.TowardZero x (f.infinity - 1) :=
  ⟨by omega, ((magnitude_strictMono f).monotone (by omega)).trans h, fun j hj _ => by omega⟩

end Choice

/-! ### The pattern of a kept mantissa -/

/-- The last step of `fpRound`: the pattern of the kept mantissa `k` at the last exponent `q`, flushed with `dn` where it
is denormalized, and no larger than rounding lets it be (R63, R64). -/
def FpFormat.patternOf (f : FpFormat) (toZero dn : Bool) (q : Int) (k : Nat) : Nat :=
  let pat := if dn && decide (k < 2 ^ f.fracBits) then 0 else (q - f.minExp).toNat * 2 ^ f.fracBits + k
  if f.infinity ≤ pat then (if toZero then f.infinity - 1 else f.infinity) else pat

/-- The mantissa that `fpRound` keeps when the exponent of its last bit is above the value's. -/
def roundedMantissa (toZero : Bool) (m sh : Nat) : Nat :=
  if !toZero && (decide (2 ^ (sh - 1) < m % 2 ^ sh) || (m % 2 ^ sh == 2 ^ (sh - 1) && m / 2 ^ sh % 2 == 1)) then
    m / 2 ^ sh + 1 else m / 2 ^ sh

section Round

variable {f : FpFormat} {toZero dn neg : Bool} {m : Nat} {e : Int}

theorem fpRound_zero : fpRound f toZero dn (.fin neg 0 e) = f.signBit neg := rfl

theorem fpRound_of_exact (hm : m ≠ 0) (hq : fpLastExp f m e ≤ e) :
    fpRound f toZero dn (.fin neg m e)
      = f.signBit neg + f.patternOf toZero dn (fpLastExp f m e) (m * 2 ^ (e - fpLastExp f m e).toNat) := by
  rw [fpRound, if_neg hm]
  simp only [if_pos hq]
  rfl

theorem fpRound_of_cut (hm : m ≠ 0) (hq : e < fpLastExp f m e) :
    fpRound f toZero dn (.fin neg m e)
      = f.signBit neg
        + f.patternOf toZero dn (fpLastExp f m e) (roundedMantissa toZero m (fpLastExp f m e - e).toNat) := by
  rw [fpRound, if_neg hm]
  simp only [if_neg (not_le.mpr hq)]
  rfl

/-! ### Both formats -/

/-- What the statements use of the two formats. -/
structure FpFormat.Proper (f : FpFormat) : Prop where
  frac : 1 ≤ f.fracBits
  exp : 2 ≤ f.expBits

theorem proper_of_format (hf : f = fmtSingle ∨ f = fmtDouble) : f.Proper := by
  rcases hf with rfl | rfl <;> exact ⟨by decide, by decide⟩

theorem FpFormat.Proper.infinity (h : f.Proper) : 2 ^ (f.fracBits + 1) ≤ f.infinity := by
  have hexp : 4 ≤ 2 ^ f.expBits := Nat.pow_le_pow_right (n := 2) (by decide) h.exp
  have hpos : 0 < 2 ^ f.fracBits := Nat.two_pow_pos _
  rw [FpFormat.infinity, pow_succ, Nat.mul_comm]
  exact Nat.mul_le_mul_right _ (by omega)

/-- A mantissa without its leading bit has the least exponent, so that its pattern is below the first normal one's. -/
theorem pattern_lt_iff {q : Int} {k : Nat} (hnormal : q = f.minExp ∨ 2 ^ f.fracBits ≤ k) :
    (q - f.minExp).toNat * 2 ^ f.fracBits + k < 2 ^ f.fracBits ↔ k < 2 ^ f.fracBits := by
  rcases hnormal with rfl | hk
  · simp
  · have := Nat.zero_le ((q - f.minExp).toNat * 2 ^ f.fracBits)
    omega

/-- A pattern above the largest number is infinity, or that number when rounding toward zero. -/
def FpFormat.clip (f : FpFormat) (toZero : Bool) (k : Nat) : Nat :=
  if f.infinity ≤ k then (if toZero then f.infinity - 1 else f.infinity) else k

theorem clip_lt_iff (hf : f.Proper) (k : Nat) : f.clip toZero k < 2 ^ f.fracBits ↔ k < 2 ^ f.fracBits := by
  have hinf := hf.infinity
  have hpos : 0 < 2 ^ f.fracBits := Nat.two_pow_pos _
  have hdouble : 2 ^ (f.fracBits + 1) = 2 ^ f.fracBits + 2 ^ f.fracBits := by rw [pow_succ]; ring
  rw [FpFormat.clip]
  split
  · cases toZero <;> simp only [Bool.false_eq_true, if_true, if_false] <;> omega
  · rfl

/-- The flush of `patternOf` is by the pattern that it would give without it. -/
theorem patternOf_eq (hf : f.Proper) {q : Int} {k : Nat} (hnormal : q = f.minExp ∨ 2 ^ f.fracBits ≤ k) :
    f.patternOf toZero dn q k =
      if dn && decide (f.clip toZero ((q - f.minExp).toNat * 2 ^ f.fracBits + k) < 2 ^ f.fracBits) then 0
      else f.clip toZero ((q - f.minExp).toNat * 2 ^ f.fracBits + k) := by
  have hinf := hf.infinity
  have hpos : 0 < 2 ^ (f.fracBits + 1) := Nat.two_pow_pos _
  rw [FpFormat.patternOf, decide_eq_decide.mpr ((clip_lt_iff hf _).trans (pattern_lt_iff hnormal))]
  cases hflush : dn && decide (k < 2 ^ f.fracBits) with
  | true =>
    simp only [if_true]
    exact if_neg (by omega)
  | false =>
    simp only [Bool.false_eq_true, if_false]
    rfl

section Between

variable {x : ℝ} {k : Nat}

theorem towardZero_clip (hf : f.Proper) (hlow : f.magnitude k ≤ x) (hhigh : x < f.magnitude (k + 1)) :
    f.TowardZero x (f.clip true k) := by
  have hinf := hf.infinity
  have hpos : 0 < 2 ^ (f.fracBits + 1) := Nat.two_pow_pos _
  rw [FpFormat.clip]
  split
  · exact towardZero_infinity (((magnitude_strictMono f).monotone ‹_›).trans hlow) (by omega)
  · exact towardZero_of_between hlow hhigh (by omega)

theorem nearest_clip (hlow : f.magnitude k ≤ x) (hhigh : x < f.magnitude (k + 1)) {up : Bool}
    (hup : up = true ↔ (f.magnitude k + f.magnitude (k + 1)) / 2 < x
      ∨ ((f.magnitude k + f.magnitude (k + 1)) / 2 = x ∧ k % 2 = 1)) :
    f.Nearest x (f.clip false (if up then k + 1 else k)) := by
  by_cases hinf : f.infinity ≤ k
  · have hclip : f.clip false (if up then k + 1 else k) = f.infinity := if_pos (by split <;> omega)
    rw [hclip]
    exact nearest_infinity (((magnitude_strictMono f).monotone hinf).trans hlow)
  · have hclip : f.clip false (if up then k + 1 else k) = if up then k + 1 else k := by
      rw [FpFormat.clip]
      cases up <;> simp only [Bool.false_eq_true, if_true, if_false] <;> split <;> omega
    rw [hclip]
    exact nearest_of_between hlow hhigh (by omega) hup

end Between

/-- `Rounds` by the two patterns that a value lies between, and a test of the middle. -/
theorem rounds_of_between {q : Int} {k : Nat} {x : ℝ} (hf : f.Proper) (hq : f.minExp ≤ q)
    (hk : k < 2 ^ (f.fracBits + 1)) (hnormal : q = f.minExp ∨ 2 ^ f.fracBits ≤ k)
    (hlow : (k : ℝ) * 2 ^ q ≤ x) (hhigh : x < ((k + 1 : Nat) : ℝ) * 2 ^ q) {up : Bool}
    (hup : up = true ↔ ((2 * k + 1 : Nat) : ℝ) * 2 ^ q < 2 * x
      ∨ (((2 * k + 1 : Nat) : ℝ) * 2 ^ q = 2 * x ∧ k % 2 = 1)) :
    f.Rounds toZero dn neg x (f.signBit neg + f.patternOf toZero dn q (if !toZero && up then k + 1 else k)) := by
  have hmag := magnitude_pattern hq hk.le hnormal
  have hmag' := magnitude_pattern (k := k + 1) hq hk (by omega)
  rw [← Nat.add_assoc] at hmag'
  have hparity : ((q - f.minExp).toNat * 2 ^ f.fracBits + k) % 2 = k % 2 := by
    obtain ⟨p, hp⟩ : ∃ p, f.fracBits = p + 1 := ⟨f.fracBits - 1, by have := hf.frac; omega⟩
    rw [hp, pow_succ, ← Nat.mul_assoc]
    omega
  rw [← hmag] at hlow
  rw [← hmag'] at hhigh
  rw [patternOf_eq hf (by split <;> omega)]
  refine ⟨_, ?_, rfl⟩
  cases toZero with
  | true => exact towardZero_clip hf hlow hhigh
  | false =>
    have hpattern : (q - f.minExp).toNat * 2 ^ f.fracBits + (if !false && up then k + 1 else k)
        = if up then (q - f.minExp).toNat * 2 ^ f.fracBits + k + 1 else (q - f.minExp).toNat * 2 ^ f.fracBits + k := by
      cases up <;> rfl
    rw [hpattern]
    refine nearest_clip hlow hhigh ?_
    rw [hup, hmag, hmag', hparity]
    have hmid : (k : ℝ) * 2 ^ q + ((k + 1 : Nat) : ℝ) * 2 ^ q = ((2 * k + 1 : Nat) : ℝ) * 2 ^ q := by
      push_cast
      ring
    rw [hmid, div_lt_iff₀ two_pos, div_eq_iff two_ne_zero, mul_comm x]

/-! ### Rounding a mantissa that stands for a real -/

/-- `m * 2 ^ e` and `x` compare alike with every multiple of `d * 2 ^ e`: rounding that cuts at such multiples cannot tell
the two apart. -/
def StandsFor (d m : Nat) (e : Int) (x : ℝ) : Prop :=
  ∀ c : Nat, d ∣ c → (c ≤ m ↔ (c : ℝ) * 2 ^ e ≤ x) ∧ (c = m ↔ (c : ℝ) * 2 ^ e = x)

theorem standsFor_self (m : Nat) (e : Int) (d : Nat) : StandsFor d m e ((m : ℝ) * 2 ^ e) := by
  intro c _
  have hpos : (0 : ℝ) < 2 ^ e := by positivity
  rw [mul_le_mul_iff_left₀ hpos, mul_left_inj' hpos.ne', Nat.cast_le, Nat.cast_inj]
  exact ⟨Iff.rfl, Iff.rfl⟩

theorem StandsFor.lt_iff {d m c : Nat} {x : ℝ} (h : StandsFor d m e x) (hc : d ∣ c) : m < c ↔ x < (c : ℝ) * 2 ^ e := by
  rw [← not_le, ← not_le, (h c hc).1]

theorem StandsFor.gt_iff {d m c : Nat} {x : ℝ} (h : StandsFor d m e x) (hc : d ∣ c) : c < m ↔ (c : ℝ) * 2 ^ e < x := by
  obtain ⟨hle, heq⟩ := h c hc
  rw [lt_iff_le_and_ne, lt_iff_le_and_ne, hle, Ne, Ne, heq]

/-- A multiple of the last kept unit, in units of the mantissa. -/
theorem scaled_eq {R : Type*} [Field R] [CharZero R] (k sh : Nat) (e : Int) :
    ((k * 2 ^ sh : Nat) : R) * 2 ^ e = (k : R) * 2 ^ (e + sh) := by
  rw [zpow_add₀ two_ne_zero, zpow_natCast]
  push_cast
  ring

theorem lastExp_bounds (f : FpFormat) (m : Nat) (e : Int) :
    f.minExp ≤ fpLastExp f m e
      ∧ (fpLastExp f m e = f.minExp ∨ fpLastExp f m e = e + m.log2 - f.fracBits)
      ∧ e + m.log2 - f.fracBits ≤ fpLastExp f m e := by
  rw [fpLastExp]
  omega

/-- A normal value keeps its leading bit where it is cut. -/
theorem cut_normal {sh : Nat} (hm : m ≠ 0) (hsh : fpLastExp f m e = e + sh)
    (hnormal : fpLastExp f m e = e + m.log2 - f.fracBits) : 2 ^ f.fracBits ≤ m / 2 ^ sh := by
  rw [Nat.le_div_iff_mul_le (Nat.two_pow_pos _), ← pow_add]
  exact (Nat.pow_le_pow_right (by decide) (by omega)).trans (Nat.log2_self_le hm)

/-- A normal value that needs no rounding has its leading bit at the top. -/
theorem exact_normal {s : Nat} (hm : m ≠ 0) (hs : e = fpLastExp f m e + s)
    (hnormal : fpLastExp f m e = e + m.log2 - f.fracBits) : 2 ^ f.fracBits ≤ m * 2 ^ s :=
  calc 2 ^ f.fracBits
    _ = 2 ^ (m.log2 + s) := by congr 1; omega
    _ = 2 ^ m.log2 * 2 ^ s := pow_add _ _ _
    _ ≤ m * 2 ^ s := Nat.mul_le_mul_right _ (Nat.log2_self_le hm)

/-- The mantissa cut at the last exponent: its size, and that it is normal unless that exponent is the least. -/
theorem cut_bounds {sh : Nat} (hm : m ≠ 0) (hsh : fpLastExp f m e = e + sh) :
    m / 2 ^ sh < 2 ^ (f.fracBits + 1) ∧ (fpLastExp f m e = f.minExp ∨ 2 ^ f.fracBits ≤ m / 2 ^ sh) := by
  obtain ⟨-, heq, hge⟩ := lastExp_bounds f m e
  refine ⟨?_, heq.imp_right (cut_normal hm hsh)⟩
  rw [Nat.div_lt_iff_lt_mul (Nat.two_pow_pos _), ← pow_add]
  exact (Nat.lt_log2_self (n := m)).trans_le (Nat.pow_le_pow_right (by decide) (by omega))

/-- The mantissa of a value that needs no rounding. -/
theorem exact_bounds {s : Nat} (hm : m ≠ 0) (hs : e = fpLastExp f m e + s) :
    m * 2 ^ s < 2 ^ (f.fracBits + 1) ∧ (fpLastExp f m e = f.minExp ∨ 2 ^ f.fracBits ≤ m * 2 ^ s) := by
  obtain ⟨-, heq, hge⟩ := lastExp_bounds f m e
  refine ⟨?_, heq.imp_right (exact_normal hm hs)⟩
  calc m * 2 ^ s
    _ < 2 ^ (m.log2 + 1) * 2 ^ s := Nat.mul_lt_mul_of_pos_right (Nat.lt_log2_self (n := m)) (Nat.two_pow_pos _)
    _ = 2 ^ (m.log2 + 1 + s) := (pow_add _ _ _).symm
    _ ≤ 2 ^ (f.fracBits + 1) := Nat.pow_le_pow_right (by decide) (by omega)

theorem rounds_of_cut {d sh : Nat} {x : ℝ} (hf : f.Proper) (hm : m ≠ 0) (hq : fpLastExp f m e = e + (sh + 1 : Nat))
    (hd : d ∣ 2 ^ sh) (hx : StandsFor d m e x) :
    f.Rounds toZero dn neg x (fpRound f toZero dn (.fin neg m e)) := by
  obtain ⟨hbound, hnormal⟩ := cut_bounds hm hq
  have hsh : (fpLastExp f m e - e).toNat = sh + 1 := by omega
  have hdiv := Nat.div_add_mod m (2 ^ (sh + 1))
  have hmod := Nat.mod_lt m (Nat.two_pow_pos (sh + 1))
  have hdd : d ∣ 2 ^ (sh + 1) := hd.trans (Nat.pow_dvd_pow 2 (by omega))
  rw [fpRound_of_cut hm (by omega), hsh, roundedMantissa, Nat.add_sub_cancel]
  have hunit (k : Nat) : (k : ℝ) * 2 ^ fpLastExp f m e = ((k * 2 ^ (sh + 1) : Nat) : ℝ) * 2 ^ e := by
    rw [scaled_eq, hq]
  have hhalf (k : Nat) : (k : ℝ) * 2 ^ fpLastExp f m e = 2 * (((k * 2 ^ sh : Nat) : ℝ) * 2 ^ e) := by
    rw [hunit, pow_succ]
    push_cast
    ring
  refine rounds_of_between hf (lastExp_bounds f m e).1 hbound hnormal ?_ ?_ ?_
  · rw [hunit, ← (hx _ (hdd.mul_left _)).1]
    exact Nat.div_mul_le_self m _
  · rw [hunit, ← hx.lt_iff (hdd.mul_left _)]
    nlinarith
  · rw [hhalf, mul_lt_mul_iff_right₀ two_pos, mul_right_inj' two_ne_zero, ← hx.gt_iff (hd.mul_left _),
      ← (hx _ (hd.mul_left _)).2]
    have hsplit : (2 * (m / 2 ^ (sh + 1)) + 1) * 2 ^ sh = 2 ^ (sh + 1) * (m / 2 ^ (sh + 1)) + 2 ^ sh := by
      rw [pow_succ]
      ring
    rw [hsplit]
    simp only [Bool.or_eq_true, Bool.and_eq_true, decide_eq_true_eq, beq_iff_eq]
    omega

/-- Rounding a finite value (R63, R64; R366). -/
theorem rounds_fin (hf : f.Proper) (hm : m ≠ 0) :
    f.Rounds toZero dn neg ((m : ℝ) * 2 ^ e) (fpRound f toZero dn (.fin neg m e)) := by
  by_cases hq : fpLastExp f m e ≤ e
  · obtain ⟨s, hs⟩ : ∃ s : Nat, e = fpLastExp f m e + s := ⟨(e - fpLastExp f m e).toNat, by omega⟩
    obtain ⟨hbound, hnormal⟩ := exact_bounds hm hs
    have hvalue : (m : ℝ) * 2 ^ e = ((m * 2 ^ s : Nat) : ℝ) * 2 ^ fpLastExp f m e := by
      rw [scaled_eq, ← hs]
    have hunit : (0 : ℝ) < 2 ^ fpLastExp f m e := by positivity
    have hround := rounds_of_between (toZero := toZero) (dn := dn) (neg := neg) (x := (m : ℝ) * 2 ^ e) (up := false) hf
      (lastExp_bounds f m e).1 hbound hnormal hvalue.ge (by rw [hvalue]; push_cast; nlinarith)
      (by rw [hvalue]; push_cast; constructor <;> intro h <;> [cases h; (rcases h with h | ⟨h, -⟩ <;> nlinarith)])
    rw [Bool.and_false, if_neg Bool.false_ne_true] at hround
    rw [fpRound_of_exact hm hq, show (e - fpLastExp f m e).toNat = s by omega]
    exact hround
  · obtain ⟨sh, hsh⟩ : ∃ sh : Nat, fpLastExp f m e = e + (sh + 1 : Nat) := ⟨(fpLastExp f m e - e - 1).toNat, by omega⟩
    exact rounds_of_cut hf hm hsh (one_dvd _) (standsFor_self m e 1)

end Round

/-! ### Quotients and square roots, with a bit for what follows -/

/-- A mantissa with one more bit, which says whether the real is above it. -/
theorem standsFor_sticky {q more : Nat} {e : Int} {x : ℝ} (hhigh : x < ((q + 1 : Nat) : ℝ) * 2 ^ (e + 1))
    (hmore : (more = 0 ∧ (q : ℝ) * 2 ^ (e + 1) = x) ∨ (more = 1 ∧ (q : ℝ) * 2 ^ (e + 1) < x)) :
    StandsFor 2 (2 * q + more) e x := by
  rintro _ ⟨j, rfl⟩
  have hunit : (0 : ℝ) < 2 ^ (e + 1) := by positivity
  have hscale : ((2 * j : Nat) : ℝ) * 2 ^ e = (j : ℝ) * 2 ^ (e + 1) := by
    rw [zpow_add_one₀ two_ne_zero]
    push_cast
    ring
  have hlow : (q : ℝ) * 2 ^ (e + 1) ≤ x := by
    rcases hmore with ⟨-, h⟩ | ⟨-, h⟩
    · exact h.le
    · exact h.le
  have hbelow (h : j ≤ q) : (j : ℝ) * 2 ^ (e + 1) ≤ (q : ℝ) * 2 ^ (e + 1) :=
    mul_le_mul_of_nonneg_right (Nat.cast_le.mpr h) hunit.le
  have habove (h : q + 1 ≤ j) : ((q + 1 : Nat) : ℝ) * 2 ^ (e + 1) ≤ (j : ℝ) * 2 ^ (e + 1) :=
    mul_le_mul_of_nonneg_right (Nat.cast_le.mpr h) hunit.le
  rw [hscale]
  refine ⟨⟨fun h => (hbelow (by omega)).trans hlow, fun h => ?_⟩, ⟨fun h => ?_, fun h => ?_⟩⟩
  · by_contra hlt
    exact absurd (hhigh.trans_le (habove (by omega))) (not_lt.mpr h)
  · obtain ⟨rfl, hx⟩ | ⟨rfl, -⟩ := hmore
    · obtain rfl : j = q := by omega
      exact hx
    · omega
  · have hjq : ¬ q + 1 ≤ j := fun hj => absurd h (hhigh.trans_le (habove hj)).ne'
    obtain ⟨rfl, hx⟩ | ⟨-, hx⟩ := hmore
    · have hj : (j : ℝ) = q := mul_right_cancel₀ hunit.ne' (h.trans hx.symm)
      have := Nat.cast_injective hj
      omega
    · exact absurd h ((hbelow (by omega)).trans_lt hx).ne

/-- A mantissa of two bits more than the format keeps is cut at even multiples. -/
theorem rounds_of_sticky {f : FpFormat} {toZero dn neg : Bool} {q more : Nat} {e : Int} {x : ℝ} (hf : f.Proper)
    (hq : 2 ^ (f.fracBits + 1) ≤ q) (hx : StandsFor 2 (2 * q + more) e x) :
    f.Rounds toZero dn neg x (fpRound f toZero dn (.fin neg (2 * q + more) e)) := by
  have hpos : 0 < 2 ^ (f.fracBits + 1) := Nat.two_pow_pos _
  have hm : 2 * q + more ≠ 0 := by omega
  have hlog : f.fracBits + 2 ≤ (2 * q + more).log2 := by
    rw [Nat.le_log2 hm, pow_succ]
    omega
  obtain ⟨-, -, hge⟩ := lastExp_bounds f (2 * q + more) e
  obtain ⟨sh, hsh⟩ : ∃ sh : Nat, fpLastExp f (2 * q + more) e = e + (sh + 1 + 1 : Nat) :=
    ⟨(fpLastExp f (2 * q + more) e - e - 2).toNat, by omega⟩
  exact rounds_of_cut hf hm hsh (Dvd.intro_left (2 ^ sh) (pow_succ 2 sh).symm) hx

/-- The mantissa of an operand. -/
theorem fpUnpack_lt {f : FpFormat} {dn neg : Bool} {v m : Nat} {e : Int} (h : fpUnpack f dn v = .fin neg m e) :
    m < 2 ^ (f.fracBits + 1) := by
  have hmod := Nat.mod_lt v (Nat.two_pow_pos f.fracBits)
  rw [pow_succ]
  unfold fpUnpack at h
  dsimp only at h
  split at h
  · cases h
    split <;> omega
  · split at h
    · split at h <;> cases h
    · cases h
      omega

theorem rounds_div {f : FpFormat} {toZero dn a b : Bool} {m n : Nat} {e g : Int} (hf : f.Proper) (hm : m ≠ 0)
    (hn : n ≠ 0) (hbound : n < 2 ^ (f.fracBits + 1)) :
    f.Rounds toZero dn (a ^^ b) (((m : ℝ) * (2 : ℝ) ^ e) / ((n : ℝ) * (2 : ℝ) ^ g))
      (fpRound f toZero dn (fpDiv f (.fin a m e) (.fin b n g))) := by
  obtain ⟨k, hk⟩ : ∃ k, k = 2 * f.fracBits + 6 := ⟨_, rfl⟩
  have hnpos : 0 < n := Nat.pos_of_ne_zero hn
  have hnreal : (0 : ℝ) < n := Nat.cast_pos.mpr hnpos
  have hdiv := Nat.div_add_mod (m * 2 ^ k) n
  have hmod := Nat.mod_lt (m * 2 ^ k) hnpos
  rw [fpDiv, if_neg hn, if_neg hm]
  dsimp only
  rw [← hk]
  have hunit : (0 : ℝ) < 2 ^ (e - g - k) := by positivity
  have hvalue : ((m : ℝ) * (2 : ℝ) ^ e) / ((n : ℝ) * (2 : ℝ) ^ g)
      = (((m * 2 ^ k : Nat) : ℝ) / n) * 2 ^ (e - g - k) := by
    rw [zpow_sub₀ two_ne_zero, zpow_sub₀ two_ne_zero, zpow_natCast]
    push_cast
    field_simp
  have hquot : 2 ^ (f.fracBits + 1) ≤ m * 2 ^ k / n := by
    rw [Nat.le_div_iff_mul_le hnpos]
    calc 2 ^ (f.fracBits + 1) * n
      _ ≤ 2 ^ (f.fracBits + 1) * 2 ^ (f.fracBits + 1) := Nat.mul_le_mul_left _ hbound.le
      _ = 2 ^ (f.fracBits + 1 + (f.fracBits + 1)) := (pow_add _ _ _).symm
      _ ≤ 2 ^ k := Nat.pow_le_pow_right (by decide) (by omega)
      _ ≤ m * 2 ^ k := Nat.le_mul_of_pos_left _ (Nat.pos_of_ne_zero hm)
  refine rounds_of_sticky hf hquot (standsFor_sticky ?_ ?_)
  · rw [sub_add_cancel, hvalue, mul_lt_mul_iff_left₀ hunit, div_lt_iff₀ hnreal, ← Nat.cast_mul, Nat.cast_lt]
    nlinarith
  · rw [sub_add_cancel, hvalue, mul_left_inj' hunit.ne', mul_lt_mul_iff_left₀ hunit, eq_div_iff hnreal.ne',
      lt_div_iff₀ hnreal, ← Nat.cast_mul, Nat.cast_inj, Nat.cast_lt]
    rw [Nat.mul_comm n] at hdiv
    split
    · exact .inl ⟨rfl, by omega⟩
    · exact .inr ⟨rfl, by omega⟩

theorem isqrtFrom_spec (n bits r : Nat) (hlow : r * r ≤ n) (hhigh : n < (r + 2 ^ bits) * (r + 2 ^ bits)) :
    isqrtFrom n bits r * isqrtFrom n bits r ≤ n ∧ n < (isqrtFrom n bits r + 1) * (isqrtFrom n bits r + 1) := by
  induction bits generalizing r with
  | zero => exact ⟨hlow, hhigh⟩
  | succ bits ih =>
    rw [isqrtFrom]
    have hdouble : r + 2 ^ (bits + 1) = r + 2 ^ bits + 2 ^ bits := by rw [pow_succ]; ring
    rw [hdouble] at hhigh
    split
    · exact ih _ ‹_› hhigh
    · exact ih _ hlow (by omega)

/-- The bits of the root begin above those of the number. -/
theorem isqrt_spec (n : Nat) :
    isqrtFrom n (n.log2 / 2 + 1) 0 * isqrtFrom n (n.log2 / 2 + 1) 0 ≤ n
      ∧ n < (isqrtFrom n (n.log2 / 2 + 1) 0 + 1) * (isqrtFrom n (n.log2 / 2 + 1) 0 + 1) := by
  refine isqrtFrom_spec n _ 0 (Nat.zero_le _) ?_
  rw [Nat.zero_add, ← pow_add]
  exact (Nat.lt_log2_self (n := n)).trans_le (Nat.pow_le_pow_right (by decide) (by omega))

theorem rounds_sqrt {f : FpFormat} {toZero dn : Bool} {m : Nat} {e : Int} (hf : f.Proper) (hm : m ≠ 0) :
    f.Rounds toZero dn false (Real.sqrt ((m : ℝ) * (2 : ℝ) ^ e))
      (fpRound f toZero dn (fpSqrt f (.fin false m e))) := by
  rw [fpSqrt, if_neg hm, if_neg Bool.false_ne_true]
  dsimp only
  obtain ⟨k, hk⟩ : ∃ k, k = 2 * f.fracBits + 6 + (e % 2).toNat := ⟨_, rfl⟩
  obtain ⟨h, hh⟩ : ∃ h : Int, e - k = 2 * h := ⟨(e - k) / 2, by omega⟩
  rw [← hk, hh, Int.mul_ediv_cancel_left h two_ne_zero]
  obtain ⟨hlow, hhigh⟩ := isqrt_spec (m * 2 ^ k)
  generalize hn : m * 2 ^ k = n at hlow hhigh ⊢
  generalize isqrtFrom n (n.log2 / 2 + 1) 0 = r at hlow hhigh ⊢
  have hvalue : Real.sqrt ((m : ℝ) * (2 : ℝ) ^ e) = Real.sqrt n * 2 ^ h := by
    have hsquare : (m : ℝ) * (2 : ℝ) ^ e = n * ((2 : ℝ) ^ h * 2 ^ h) := by
      rw [← hn, ← zpow_add₀ two_ne_zero, scaled_eq, show e = h + h + k by omega]
    rw [hsquare, Real.sqrt_mul (Nat.cast_nonneg n), Real.sqrt_mul_self (by positivity)]
  have hunit : (0 : ℝ) < 2 ^ h := by positivity
  have hroot : 2 ^ (f.fracBits + 1) ≤ r := by
    by_contra hlt
    have hsmall : (r + 1) * (r + 1) ≤ 2 ^ (f.fracBits + 1) * 2 ^ (f.fracBits + 1) := Nat.mul_le_mul (by omega) (by omega)
    have hlarge : 2 ^ (f.fracBits + 1) * 2 ^ (f.fracBits + 1) ≤ n := by
      rw [← pow_add, ← hn]
      exact (Nat.pow_le_pow_right (by decide) (by omega)).trans (Nat.le_mul_of_pos_left _ (Nat.pos_of_ne_zero hm))
    omega
  refine rounds_of_sticky hf hroot (standsFor_sticky ?_ ?_)
  · rw [sub_add_cancel, hvalue, mul_lt_mul_iff_left₀ hunit, Real.sqrt_lt' (by positivity), sq]
    exact_mod_cast hhigh
  · rw [sub_add_cancel, hvalue, mul_left_inj' hunit.ne', mul_lt_mul_iff_left₀ hunit, Real.lt_sqrt (Nat.cast_nonneg r),
      eq_comm (a := (r : ℝ)), Real.sqrt_eq_iff_mul_self_eq (Nat.cast_nonneg n) (Nat.cast_nonneg r), sq]
    split
    · exact .inl ⟨rfl, by exact_mod_cast ‹r * r = n›.symm⟩
    · exact .inr ⟨rfl, by exact_mod_cast lt_of_le_of_ne hlow ‹_›⟩

/-- Settles O59: finite values by the cut of their mantissa, quotients and roots by mantissas that stand for them. -/
theorem fpRounding : Obligations.FpRounding := by
  intro f toZero dn hformat
  have hf := proper_of_format hformat
  refine ⟨fun neg m e hm => rounds_fin hf hm, fun u v a b m n e g hu hv => ⟨fun hm hn => ?_, fun hm hn => ?_,
    fun hm hn => ?_, fun hm hn => ?_⟩, fun u neg m e hu => ⟨fun hm hneg => ?_, fun hm hneg => ?_, fun hm => ?_⟩,
    fun neg e => fpRound_zero, fun neg => rfl, rfl, rfl⟩
  · exact rounds_div hf hm hn (fpUnpack_lt hv)
  · rw [fpDiv, if_pos hn, if_neg hm, fpRound]
  · rw [fpDiv, if_neg hn, if_pos hm, fpRound_zero]
  · rw [fpDiv, if_pos hn, if_pos hm, fpRound]
  · subst hneg
    exact rounds_sqrt hf hm
  · rw [fpSqrt, if_neg hm, if_pos hneg, fpRound]
  · rw [fpSqrt, if_pos hm, fpRound_zero]

end Sys2Proof.Machine
end

section
/-! SUPPORT. The FPU's exact results: a value that the format represents comes back from its pattern, the operations on
values are those on rationals, and where FPNUM fixes a result it is that of FPNUM_IEEE (O56 to O58). -/

namespace Sys2Proof.Machine

/-! ### The fields of a pattern -/

section Fields

variable {f : FpFormat} {neg dn : Bool} {d j : Nat}

theorem signBit_eq (f : FpFormat) (neg : Bool) : f.signBit neg = neg.toNat * 2 ^ (f.expBits + f.fracBits) := by
  cases neg <;> simp [FpFormat.signBit]

theorem pattern_frac (hj : j < 2 ^ f.fracBits) :
    (f.signBit neg + (d * 2 ^ f.fracBits + j)) % 2 ^ f.fracBits = j := by
  rw [signBit_eq, pow_add,
    show neg.toNat * (2 ^ f.expBits * 2 ^ f.fracBits) + (d * 2 ^ f.fracBits + j)
      = j + 2 ^ f.fracBits * (neg.toNat * 2 ^ f.expBits + d) by ring,
    Nat.add_mul_mod_self_left, Nat.mod_eq_of_lt hj]

theorem pattern_div (hj : j < 2 ^ f.fracBits) :
    (f.signBit neg + (d * 2 ^ f.fracBits + j)) / 2 ^ f.fracBits = neg.toNat * 2 ^ f.expBits + d := by
  rw [signBit_eq, pow_add,
    show neg.toNat * (2 ^ f.expBits * 2 ^ f.fracBits) + (d * 2 ^ f.fracBits + j)
      = j + 2 ^ f.fracBits * (neg.toNat * 2 ^ f.expBits + d) by ring,
    Nat.add_mul_div_left _ _ (Nat.two_pow_pos _), Nat.div_eq_of_lt hj, Nat.zero_add]

theorem pattern_exp (hj : j < 2 ^ f.fracBits) (hd : d < 2 ^ f.expBits) :
    (f.signBit neg + (d * 2 ^ f.fracBits + j)) / 2 ^ f.fracBits % 2 ^ f.expBits = d := by
  rw [pattern_div hj, Nat.mul_comm, Nat.mul_add_mod, Nat.mod_eq_of_lt hd]

theorem pattern_sign (hj : j < 2 ^ f.fracBits) (hd : d < 2 ^ f.expBits) :
    ((f.signBit neg + (d * 2 ^ f.fracBits + j)) / 2 ^ (f.expBits + f.fracBits) % 2 == 1) = neg := by
  rw [Nat.add_comm f.expBits, pow_add, ← Nat.div_div_eq_div_mul, pattern_div hj, Nat.mul_comm,
    Nat.mul_add_div (Nat.two_pow_pos _), Nat.div_eq_of_lt hd]
  cases neg <;> rfl

/-- A normal pattern, by its fields (R366). -/
theorem fpUnpack_normal (hj : j < 2 ^ f.fracBits) (hd : d + 1 < 2 ^ f.expBits - 1) :
    fpUnpack f dn (f.signBit neg + ((d + 1) * 2 ^ f.fracBits + j)) = .fin neg (2 ^ f.fracBits + j) (f.minExp + d) := by
  have hd' : d + 1 < 2 ^ f.expBits := by omega
  rw [fpUnpack, pattern_exp hj hd', pattern_sign hj hd', pattern_frac hj, if_neg (by omega), if_neg (by omega), Nat.add_sub_cancel]

theorem fpUnpack_signBit (f : FpFormat) (dn neg : Bool) : fpUnpack f dn (f.signBit neg) = .fin neg 0 f.minExp := by
  have hpos : 0 < 2 ^ f.fracBits := Nat.two_pow_pos _
  have hexp := pattern_exp (f := f) (neg := neg) (d := 0) hpos (Nat.two_pow_pos _)
  have hsign := pattern_sign (f := f) (neg := neg) (d := 0) hpos (Nat.two_pow_pos _)
  have hfrac := pattern_frac (f := f) (neg := neg) (d := 0) hpos
  rw [Nat.zero_mul, Nat.add_zero] at hexp hsign hfrac
  rw [fpUnpack, hexp, hsign, hfrac, if_pos rfl, ite_self]

theorem signBit_le (f : FpFormat) (neg : Bool) : f.signBit neg ≤ 2 ^ (f.expBits + f.fracBits) := by
  cases neg <;> simp [FpFormat.signBit]

end Fields

/-! ### Values that need no rounding (O57) -/

section Exact

variable {f : FpFormat} {toZero dn neg : Bool} {m : Nat} {e : Int}

theorem fpExactNormal_fin (h : fpExactNormal f (.fin neg m e) = true) :
    m ≠ 0 ∧ f.minExp ≤ e + m.log2 - f.fracBits
      ∧ (fpLastExp f m e ≤ e ∨ m % 2 ^ (fpLastExp f m e - e).toNat = 0)
      ∧ e + m.log2 - f.fracBits - f.minExp < 2 ^ f.expBits - 2 := by
  simpa [fpExactNormal, and_assoc] using h

/-- The mantissa of a normal value, as the pattern has it. -/
theorem exists_normalMantissa (hm : m ≠ 0) (hmin : f.minExp ≤ e + m.log2 - f.fracBits)
    (hexact : fpLastExp f m e ≤ e ∨ m % 2 ^ (fpLastExp f m e - e).toNat = 0) :
    ∃ j, j < 2 ^ f.fracBits
      ∧ ((2 ^ f.fracBits + j : Nat) : ℚ) * 2 ^ (e + m.log2 - f.fracBits) = (m : ℚ) * 2 ^ e
      ∧ fpRound f toZero dn (.fin neg m e)
        = f.signBit neg + f.patternOf toZero dn (e + m.log2 - f.fracBits) (2 ^ f.fracBits + j) := by
  have hlast : fpLastExp f m e = e + m.log2 - f.fracBits := by rw [fpLastExp]; omega
  have hdouble : 2 ^ (f.fracBits + 1) = 2 ^ f.fracBits + 2 ^ f.fracBits := by rw [pow_succ]; ring
  by_cases hq : fpLastExp f m e ≤ e
  · obtain ⟨s, hs⟩ : ∃ s : Nat, e = fpLastExp f m e + s := ⟨(e - fpLastExp f m e).toNat, by omega⟩
    obtain ⟨hbound, -⟩ := exact_bounds hm hs
    have hge := exact_normal hm hs hlast
    refine ⟨m * 2 ^ s - 2 ^ f.fracBits, by omega, ?_, ?_⟩
    · rw [Nat.add_sub_cancel' hge, scaled_eq, ← hlast, ← hs]
    · rw [Nat.add_sub_cancel' hge, fpRound_of_exact hm hq, show (e - fpLastExp f m e).toNat = s by omega, hlast]
  · obtain ⟨sh, hsh⟩ : ∃ sh : Nat, fpLastExp f m e = e + (sh + 1 : Nat) := ⟨(fpLastExp f m e - e - 1).toNat, by omega⟩
    obtain ⟨hbound, -⟩ := cut_bounds hm hsh
    have hmod : m % 2 ^ (sh + 1) = 0 := by
      have h := hexact.resolve_left hq
      rwa [show (fpLastExp f m e - e).toNat = sh + 1 by omega] at h
    have hge := cut_normal hm hsh hlast
    have hkept : roundedMantissa toZero m (sh + 1) = m / 2 ^ (sh + 1) := by
      have hpos : 0 < 2 ^ sh := Nat.two_pow_pos _
      rw [roundedMantissa, hmod, Nat.add_sub_cancel, decide_eq_false (by omega), beq_eq_false_iff_ne.mpr (by omega)]
      simp
    refine ⟨m / 2 ^ (sh + 1) - 2 ^ f.fracBits, by omega, ?_, ?_⟩
    · rw [Nat.add_sub_cancel' hge, ← hlast, hsh, ← scaled_eq, Nat.div_mul_cancel (Nat.dvd_of_mod_eq_zero hmod)]
    · rw [Nat.add_sub_cancel' hge, fpRound_of_cut hm (by omega), show (fpLastExp f m e - e).toNat = sh + 1 by omega, hkept,
        hlast]

/-- The pattern of a normal value has its exponent and fraction in their fields. -/
theorem patternOf_normal {q : Int} {d j : Nat} (hj : j < 2 ^ f.fracBits) (hq : q = f.minExp + d)
    (hd : d + 1 < 2 ^ f.expBits - 1) :
    f.patternOf toZero dn q (2 ^ f.fracBits + j) = (d + 1) * 2 ^ f.fracBits + j := by
  have hflush : (dn && decide (2 ^ f.fracBits + j < 2 ^ f.fracBits)) = false := by simp
  have hlt : d * 2 ^ f.fracBits + (2 ^ f.fracBits + j) < f.infinity := by
    rw [FpFormat.infinity]
    calc d * 2 ^ f.fracBits + (2 ^ f.fracBits + j)
      _ < (d + 2) * 2 ^ f.fracBits := by rw [Nat.add_mul]; omega
      _ ≤ (2 ^ f.expBits - 1) * 2 ^ f.fracBits := Nat.mul_le_mul_right _ (by omega)
  rw [FpFormat.patternOf, hflush, if_neg Bool.false_ne_true, show (q - f.minExp).toNat = d by omega, if_neg (not_le.mpr hlt)]
  ring

theorem fpRound_exact (h : fpExactNormal f (.fin neg m e) = true) :
    fpRound f toZero dn (.fin neg m e) < 2 ^ (1 + f.expBits + f.fracBits)
      ∧ ∀ dn', (fpUnpack f dn' (fpRound f toZero dn (.fin neg m e))).toRat = (FpVal.fin neg m e).toRat := by
  obtain ⟨hm, hmin, hexact, hmax⟩ := fpExactNormal_fin h
  obtain ⟨j, hj, hvalue, hround⟩ := exists_normalMantissa (toZero := toZero) (dn := dn) (neg := neg) hm hmin hexact
  obtain ⟨d, hd⟩ : ∃ d : Nat, e + m.log2 - f.fracBits = f.minExp + d := ⟨(e + m.log2 - f.fracBits - f.minExp).toNat, by omega⟩
  have hpos : 0 < 2 ^ f.expBits := Nat.two_pow_pos _
  have hfield : d + 1 < 2 ^ f.expBits - 1 := by
    have : (d : Int) < 2 ^ f.expBits - 2 := by omega
    zify [Nat.one_le_two_pow]
    omega
  rw [hround, patternOf_normal hj hd hfield]
  refine ⟨?_, fun dn' => ?_⟩
  · have hsign := signBit_le f neg
    have hlt : (d + 1) * 2 ^ f.fracBits + j < 2 ^ (f.expBits + f.fracBits) := by
      rw [pow_add]
      calc (d + 1) * 2 ^ f.fracBits + j
        _ < (d + 2) * 2 ^ f.fracBits := by rw [Nat.add_mul, Nat.add_mul]; omega
        _ ≤ 2 ^ f.expBits * 2 ^ f.fracBits := Nat.mul_le_mul_right _ (by omega)
    rw [Nat.add_assoc, pow_add 2 1, pow_one]
    omega
  · rw [fpUnpack_normal hj hfield, FpVal.toRat, FpVal.toRat, mul_assoc, mul_assoc, ← hd, hvalue]

end Exact

/-- Settles O57. -/
theorem fpRoundExact : Obligations.FpRoundExact := by
  intro f toZero dn dn' v _ h
  cases v with
  | nan => cases h
  | inf neg => cases h
  | fin neg m e =>
    obtain ⟨hlt, hvalue⟩ := fpRound_exact (toZero := toZero) (dn := dn) h
    exact ⟨hlt, hvalue dn'⟩

/-! ### The operations on exact values (O56) -/

section Operations

variable {a b : Bool} {m n : Nat} {e g low : Int}

/-- The value of a finite operand. -/
def finRat (neg : Bool) (m : Nat) (e : Int) : ℚ := (if neg then -1 else 1) * (m : ℚ) * (2 : ℚ) ^ e

theorem fpAlign_value (h : low ≤ e) : (fpAlign a m e low : ℚ) * 2 ^ low = finRat a m e := by
  obtain ⟨d, rfl⟩ : ∃ d : Nat, e = low + d := ⟨(e - low).toNat, by omega⟩
  have hscaled := scaled_eq (R := ℚ) m d low
  rw [finRat, fpAlign, show (low + (d : Int) - low).toNat = d by omega]
  cases a with
  | true =>
    rw [if_pos rfl, if_pos rfl, Int.cast_neg, Int.cast_natCast, neg_mul, hscaled]
    ring
  | false =>
    rw [if_neg Bool.false_ne_true, if_neg Bool.false_ne_true, Int.cast_natCast, hscaled]
    ring

/-- A signed mantissa as a sign and a magnitude. -/
theorem finRat_natAbs (sum : Int) (low : Int) : finRat (decide (sum < 0)) sum.natAbs low = (sum : ℚ) * 2 ^ low := by
  rw [finRat]
  congr 1
  by_cases h : sum < 0
  · rw [decide_eq_true h, if_pos rfl, Nat.cast_natAbs, abs_of_neg h]
    push_cast
    ring
  · rw [decide_eq_false h, if_neg Bool.false_ne_true, Nat.cast_natAbs, abs_of_nonneg (not_lt.mp h)]
    ring

theorem finRat_zero (a : Bool) (e : Int) : finRat a 0 e = 0 := by simp [finRat]

theorem fpAdd_fin : (fpAdd (.fin a m e) (.fin b n g)).toRat = some (finRat a m e + finRat b n g) := by
  rw [← fpAlign_value (low := min e g) (min_le_left e g), ← fpAlign_value (low := min e g) (min_le_right e g), ← add_mul,
    ← Int.cast_add, fpAdd]
  split
  · rename_i hzero
    rw [hzero, Int.cast_zero, zero_mul]
    exact congrArg some (finRat_zero _ _)
  · exact congrArg some (finRat_natAbs _ _)

theorem finRat_not (b : Bool) (n : Nat) (g : Int) : finRat (!b) n g = -finRat b n g := by
  cases b <;> simp [finRat]

theorem fpMul_fin : (fpMul (.fin a m e) (.fin b n g)).toRat = some (finRat a m e * finRat b n g) := by
  refine congrArg some ?_
  simp only [zpow_add₀ (two_ne_zero (α := ℚ)), Nat.cast_mul, finRat]
  cases a <;> cases b <;> simp <;> ring

theorem fpEq_fin : fpEq (.fin a m e) (.fin b n g) = true ↔ finRat a m e = finRat b n g := by
  have hunit : (2 : ℚ) ^ min e g ≠ 0 := by positivity
  rw [← fpAlign_value (low := min e g) (min_le_left e g), ← fpAlign_value (low := min e g) (min_le_right e g),
    mul_left_inj' hunit, Int.cast_inj]
  exact decide_eq_true_iff

theorem fpGt_fin : fpGt (.fin a m e) (.fin b n g) = true ↔ finRat b n g < finRat a m e := by
  have hunit : (0 : ℚ) < 2 ^ min e g := by positivity
  rw [← fpAlign_value (low := min e g) (min_le_left e g), ← fpAlign_value (low := min e g) (min_le_right e g),
    mul_lt_mul_iff_left₀ hunit, Int.cast_lt]
  exact decide_eq_true_iff

end Operations

/-- A value that is a rational is finite. -/
theorem toRat_eq_some {v : FpVal} {x : ℚ} (h : v.toRat = some x) :
    ∃ neg m e, v = .fin neg m e ∧ finRat neg m e = x := by
  cases v with
  | nan => cases h
  | inf neg => cases h
  | fin neg m e => exact ⟨neg, m, e, rfl, Option.some.inj h⟩

/-! ### Truncation -/

/-- The truncated magnitude is the floor. -/
theorem floor_magnitude (m : Nat) (e : Int) : ⌊(m : ℚ) * 2 ^ e⌋ = (fpTruncate m e : Int) := by
  rw [fpTruncate]
  split
  · rename_i h
    obtain ⟨d, rfl⟩ : ∃ d : Nat, e = d := ⟨e.toNat, by omega⟩
    rw [Int.toNat_natCast, zpow_natCast]
    exact_mod_cast Int.floor_natCast (R := ℚ) (m * 2 ^ d)
  · obtain ⟨d, rfl⟩ : ∃ d : Nat, e = -d := ⟨(-e).toNat, by omega⟩
    rw [neg_neg, Int.toNat_natCast, zpow_neg, zpow_natCast, ← div_eq_mul_inv]
    exact_mod_cast Rat.floor_natCast_div_natCast m (2 ^ d)

theorem truncRat_fin (neg : Bool) (m : Nat) (e : Int) :
    truncRat (finRat neg m e) = if neg then -(fpTruncate m e : Int) else fpTruncate m e := by
  have hnonneg : (0 : ℚ) ≤ (m : ℚ) * 2 ^ e := by positivity
  rw [← floor_magnitude]
  cases neg with
  | false =>
    rw [finRat, if_neg Bool.false_ne_true, one_mul, truncRat, if_pos hnonneg]
    rfl
  | true =>
    rw [finRat, if_pos rfl, mul_assoc, neg_one_mul, truncRat]
    split
    · rename_i h
      have hzero : (m : ℚ) * 2 ^ e = 0 := by linarith
      simp [hzero]
    · exact Int.ceil_neg

theorem fpToInt_fin (neg : Bool) (m : Nat) (e : Int) :
    (fpToInt (.fin neg m e)).toInt = max (-2 ^ 31) (min (2 ^ 31 - 1) (truncRat (finRat neg m e))) := by
  rw [truncRat_fin, fpToInt]
  generalize fpTruncate m e = k
  cases neg with
  | true =>
    simp only [if_true]
    split
    · rw [show (0x80000000 : Word).toInt = -2 ^ 31 from by decide]
      omega
    · rw [BitVec.toInt_ofInt_eq_self (by decide) (by omega) (by omega)]
      omega
  | false =>
    simp only [Bool.false_eq_true, if_false]
    split
    · rw [show (0x7FFFFFFF : Word).toInt = 2 ^ 31 - 1 from by decide]
      omega
    · rw [← BitVec.ofInt_natCast, BitVec.toInt_ofInt_eq_self (by decide) (by omega) (by omega)]
      omega

/-! ### The conversions that are exact -/

theorem log2_le_of_lt {m k : Nat} (hm : m ≠ 0) (h : m < 2 ^ (k + 1)) : m.log2 ≤ k :=
  Nat.lt_succ_iff.mp ((Nat.log2_lt hm).mpr h)

/-- A small integer times a power of two within reach is a normal double (R385, R392). -/
theorem fpExactNormal_double {neg : Bool} {m : Nat} {e : Int} (hm : m ≠ 0) (hlt : m < 2 ^ 32) (hlow : -149 ≤ e)
    (hhigh : e ≤ 104) : fpExactNormal fmtDouble (.fin neg m e) = true := by
  have hlog := log2_le_of_lt (k := 31) hm hlt
  have hmin : fmtDouble.minExp = -1074 := by decide
  have hfrac : fmtDouble.fracBits = 52 := rfl
  have hexp : fmtDouble.expBits = 11 := rfl
  have hlast : fpLastExp fmtDouble m e ≤ e := by
    rw [fpLastExp, hmin, hfrac]
    omega
  simp only [fpExactNormal, hmin, hfrac, hexp, Bool.and_eq_true, Bool.or_eq_true, bne_iff_ne, decide_eq_true_eq]
  exact ⟨⟨⟨hm, by omega⟩, .inl hlast⟩, by norm_num; omega⟩

/-- A finite value with few bits comes back from its double whole. -/
theorem fpUnpack_double {neg dn : Bool} {m : Nat} {e : Int} (hlt : m < 2 ^ 32) (hlow : -149 ≤ e) (hhigh : e ≤ 104) :
    (fpUnpack fmtDouble dn (BitVec.ofNat 64 (fpRound fmtDouble true false (.fin neg m e))).toNat).toRat
      = some (finRat neg m e) := by
  by_cases hm : m = 0
  · subst hm
    have hsign : fmtDouble.signBit neg < 2 ^ 64 := by cases neg <;> decide
    rw [fpRound_zero, BitVec.toNat_ofNat, Nat.mod_eq_of_lt hsign, fpUnpack_signBit, finRat_zero]
    exact congrArg some (finRat_zero _ _)
  · obtain ⟨hbound, hvalue⟩ := fpRound_exact (toZero := true) (dn := false) (fpExactNormal_double (neg := neg) hm hlt hlow hhigh)
    have hbound' : fpRound fmtDouble true false (.fin neg m e) < 2 ^ 64 := hbound
    rw [BitVec.toNat_ofNat, Nat.mod_eq_of_lt hbound']
    exact hvalue dn

theorem fpOfInt_value (i : Word) : finRat i.msb i.toInt.natAbs 0 = (i.toInt : ℚ) := by
  have hsign : i.msb = decide (i.toInt < 0) := by rw [BitVec.msb_eq_toInt]
  rw [hsign, finRat_natAbs, zpow_zero, mul_one]

theorem natAbs_toInt_lt (i : Word) : i.toInt.natAbs < 2 ^ 32 := by
  have hlow := BitVec.le_toInt i
  have hhigh := BitVec.toInt_lt (x := i)
  simp only [Nat.reduceSub] at hlow hhigh
  omega

/-- The bounds of a single's value (R366). -/
theorem fpUnpack_single {dn neg : Bool} {v m : Nat} {e : Int} (h : fpUnpack fmtSingle dn v = .fin neg m e) :
    m < 2 ^ 32 ∧ -149 ≤ e ∧ e ≤ 104 := by
  have hm := fpUnpack_lt h
  have hmin : fmtSingle.minExp = -149 := by decide
  have hexp := Nat.mod_lt (v / 2 ^ fmtSingle.fracBits) (show 0 < 2 ^ fmtSingle.expBits by decide)
  have hfield : (2 : Nat) ^ fmtSingle.expBits = 256 := by decide
  rw [hfield] at hexp
  refine ⟨hm.trans (by decide), ?_⟩
  rw [fpUnpack, hmin, hfield] at h
  split at h
  · cases h
    omega
  · split at h
    · split at h <;> cases h
    · cases h
      omega

/-- The rounding of `float32` sees the mode and the number system alone (R385). -/
theorem fpFloat32_congr {s t : State} (hcfg : t.cfg.fpnum = s.cfg.fpnum) (hrm : t.rm = s.rm) (i : Word) :
    fpFloat32 t i = fpFloat32 s i := by
  rw [fpFloat32, fpFloat32, fpPattern, fpPattern, hcfg, hrm]

/-- Settles O56. -/
theorem fpExactOperations : Obligations.FpExactOperations := by
  refine ⟨fun a b x y ha hb => ?_, fun a x ha => ?_, rfl, rfl, rfl, fun i dn => ?_,
    fun s t i hcfg hrm => fpFloat32_congr hcfg hrm i, fun s a x hcfg ha => ?_⟩
  · obtain ⟨a, m, e, rfl, rfl⟩ := toRat_eq_some ha
    obtain ⟨b, n, g, rfl, rfl⟩ := toRat_eq_some hb
    refine ⟨fpAdd_fin, ?_, fpMul_fin, fpEq_fin, fpGt_fin⟩
    rw [fpSub, fpNegate, fpAdd_fin, finRat_not, sub_eq_add_neg]
  · obtain ⟨neg, m, e, rfl, rfl⟩ := toRat_eq_some ha
    exact fpToInt_fin neg m e
  · rw [fpFloat64, fpOfInt, fpUnpack_double (natAbs_toInt_lt i) (by decide) (by decide), fpOfInt_value]
  · obtain ⟨neg, m, e, hv, rfl⟩ := toRat_eq_some ha
    obtain ⟨hm, hlow, hhigh⟩ := fpUnpack_single hv
    rw [fpCnvsd, hv, hcfg]
    exact fpUnpack_double hm hlow hhigh

/-! ### Where the results are fixed (O58) -/

section Agreed

variable {s : State} {f : FpFormat} {toZero dn dn' : Bool}

theorem patternOf_dn {q : Int} {k : Nat} (hk : 2 ^ f.fracBits ≤ k) :
    f.patternOf toZero dn q k = f.patternOf toZero dn' q k := by
  have hflush (b : Bool) : (b && decide (k < 2 ^ f.fracBits)) = false := by simp [hk]
  rw [FpFormat.patternOf, FpFormat.patternOf, hflush, hflush]

theorem le_roundedMantissa (toZero : Bool) (m sh : Nat) : m / 2 ^ sh ≤ roundedMantissa toZero m sh := by
  rw [roundedMantissa]
  split <;> omega

/-- `DN` is no matter to a value that the format does not denormalize. -/
theorem fpRound_dn {neg : Bool} {m : Nat} {e : Int} (h : m ≠ 0 → f.minExp ≤ e + m.log2 - f.fracBits) :
    fpRound f toZero dn (.fin neg m e) = fpRound f toZero dn' (.fin neg m e) := by
  by_cases hm : m = 0
  · subst hm
    rfl
  have hlast : fpLastExp f m e = e + m.log2 - f.fracBits := by
    have := h hm
    rw [fpLastExp]
    omega
  by_cases hq : fpLastExp f m e ≤ e
  · have hk := exact_normal (s := (e - fpLastExp f m e).toNat) hm (by omega) hlast
    rw [fpRound_of_exact hm hq, fpRound_of_exact hm hq, patternOf_dn hk]
  · have hk := cut_normal (sh := (fpLastExp f m e - e).toNat) hm (by omega) hlast
    rw [fpRound_of_cut hm (not_le.mp hq), fpRound_of_cut hm (not_le.mp hq),
      patternOf_dn (hk.trans (le_roundedMantissa toZero m _))]

/-- The pattern that FPNUM answers, where it is fixed (R366; log 14). -/
theorem fpPattern_eq (hrm : s.rm = 0 ∨ s.rm = 1) {op : FpOp} {agreed : Bool} {v : FpVal} {a b c : BitVec 64}
    (h : s.cfg.fpnum = .ieee ∨ agreed = true) :
    fpPattern s dn f op agreed v a b c = BitVec.ofNat 64 (fpRound f (decide (s.rm = 1)) dn v) := by
  have hmode : (s.rm == 1) = decide (s.rm = 1) := Bool.beq_eq_decide_eq _ _
  have hmsb : s.rm.msb = false := by rcases hrm with h0 | h0 <;> rw [h0] <;> rfl
  rw [fpPattern, hmode]
  cases hcfg : s.cfg.fpnum with
  | ieee => rfl
  | other =>
    obtain rfl := h.resolve_left (by rw [hcfg]; exact nofun)
    rw [hmsb]
    rfl

theorem setWidth_ofNat64 (k : Nat) : (BitVec.ofNat 64 k).setWidth 32 = BitVec.ofNat 32 k :=
  BitVec.setWidth_ofNat_of_le (by decide) k

theorem fpCompare_eq {op : FpOp} {g : FpVal → FpVal → Bool} {a b : BitVec 64}
    (h : s.cfg.fpnum = .ieee ∨ (fpPlain f a.toNat = true ∧ fpPlain f b.toNat = true)) :
    fpCompare s f op g a b = g (s.fpIn f a) (s.fpIn f b) := by
  rw [fpCompare]
  cases hcfg : s.cfg.fpnum with
  | ieee => rfl
  | other =>
    obtain ⟨ha, hb⟩ := h.resolve_left (by rw [hcfg]; exact nofun)
    exact if_pos (by rw [ha, hb]; rfl)

theorem fpTrc_eq {op : FpOp} {a : BitVec 64} (h : s.cfg.fpnum = .ieee ∨ fpIntExact (s.fpIn f a) = true) :
    fpTrc s f op a = fpToInt (s.fpIn f a) := by
  rw [fpTrc]
  cases hcfg : s.cfg.fpnum with
  | ieee => rfl
  | other => exact if_pos (h.resolve_left (by rw [hcfg]; exact nofun))

theorem fpCnvsd_eq {a : Word} (h : s.cfg.fpnum = .ieee ∨ (fpPlain fmtSingle a.toNat = true
      ∧ fpExactNormal fmtDouble (s.fpIn fmtSingle (a.setWidth 64)) = true)) :
    fpCnvsd s a = BitVec.ofNat 64 (fpRound fmtDouble true false (s.fpIn fmtSingle (a.setWidth 64))) := by
  rw [fpCnvsd]
  cases hcfg : s.cfg.fpnum with
  | ieee => rfl
  | other =>
    obtain ⟨ha, hv⟩ := h.resolve_left (by rw [hcfg]; exact nofun)
    exact if_pos (by rw [ha, hv]; rfl)

theorem fpFloat32_eq (hrm : s.rm = 0 ∨ s.rm = 1) {i : Word} (dn : Bool)
    (h : s.cfg.fpnum = .ieee ∨ i = 0 ∨ fpExactNormal fmtSingle (fpOfInt i) = true) :
    fpFloat32 s i = BitVec.ofNat 32 (fpRound fmtSingle (decide (s.rm = 1)) dn (fpOfInt i)) := by
  have hmin : fmtSingle.minExp = -149 := by decide
  have hfrac : fmtSingle.fracBits = 23 := rfl
  rw [fpFloat32]
  rw [fpPattern_eq hrm (h.imp_right (by rintro (rfl | hv) <;> simp [*])), setWidth_ofNat64, fpOfInt,
    fpRound_dn (dn' := dn) (by rw [hmin, hfrac]; omega)]

end Agreed

/-- Settles O58. -/
theorem fpuAgreedResult : Obligations.FpuAgreedResult := by
  intro s hrm
  refine ⟨fun f op g a b h => ?_, fun f op g a h => ?_, fun a b c h => ?_,
    fun i dn h => ⟨fpFloat32_eq hrm dn h, congrArg some (fpOfInt_value i)⟩, fun a h => ?_, fun a h => fpCnvsd_eq h,
    fun f op g a b h => fpCompare_eq h, fun f op a h => fpTrc_eq h⟩
  · exact fpPattern_eq hrm (h.imp_right fun ⟨ha, hb, hv⟩ => by rw [ha, hb, hv]; rfl)
  · exact fpPattern_eq hrm (h.imp_right fun ⟨ha, hv⟩ => by rw [ha, hv]; rfl)
  · rw [fpMac, fpPattern_eq hrm (.inl h), setWidth_ofNat64]
  · rw [fpCnvds, fpPattern_eq hrm (h.imp_right fun ⟨ha, hv⟩ => by rw [ha, hv]; rfl), setWidth_ofNat64]

end Sys2Proof.Machine
end
